-- ==== Sys2Proof/Word.lean ====
section
/-! DEFINITION. The words of the block: every register, queue slot and port value is one byte
(spec/00_scope.md R5, R9 (a); spec/20_memory.md R82). -/

namespace Sys2Proof

/-- A byte, bits numbered 7 (most significant) to 0 (R5). -/
abbrev Byte := BitVec 8

end Sys2Proof
end

