-- ==== Sys2Proof/Syntax.lean ====
section
/-! DEFINITION. What is presented to the block from outside (`Op`), and the instructions of the
block (`Instr`): one constructor per row of spec/opcode_table.json, an operation together with the
protocol state that selects its row (spec/30_encoding.md R110, R129; 92_eei_decisions.md D1). -/

namespace Sys2Proof

/-- The two channels of the ESCC (10_state.md R20). -/
inductive Chan where
  | A
  | B
deriving DecidableEq, Repr

/-- The sibling relation, fixed at construction (R20): `sib(A) = B`, `sib(B) = A`. -/
def Chan.sib : Chan → Chan
  | .A => .B
  | .B => .A

/-- The channel a number names; none where it names neither A nor B (60_exceptions.md R341).
DESIGN CHOICE (log 7): the numbers are those of the address decode's `chanbit` (20_memory.md R80). -/
def Chan.ofIndex : Nat → Option Chan
  | 0 => some .B
  | 1 => some .A
  | _ => none

/-- The number of a channel, the inverse of `Chan.ofIndex`: its `chanbit` of R80. -/
def Chan.index : Chan → Nat
  | .A => 1
  | .B => 0

/-- What a channel is wired to (00_scope.md R4, 10_state.md R28). -/
inductive Role where
  | serial
  | keyboard
  | mouse
deriving DecidableEq, Repr, Inhabited

/-- A key identifier of the host's key space. The spec names two qcodes and numbers none
(44_sun_keyboard_mouse.md R230); every other one is `other n`. DESIGN CHOICE (log 12). -/
inductive Qcode where
  | capsLock
  | numLock
  | other (n : Nat)
deriving DecidableEq, Repr

/-- The PS/2 keyboard commands whose argument byte can be awaited; `write_cmd = -1` is the `none` of
an `Option KbdArg` (10_state.md R52). -/
inductive KbdArg where
  /-- 0xF0 -/
  | scancode
  /-- 0xED -/
  | setLeds
  /-- 0xF3 -/
  | setRate
deriving DecidableEq, Repr

/-- The PS/2 mouse commands whose argument byte can be awaited (10_state.md R53). -/
inductive AuxArg where
  /-- 0xE8 -/
  | setRes
  /-- 0xF3 -/
  | setSample
deriving DecidableEq, Repr

/-- The ports of the block: the four of the ESCC window (20_memory.md R81) and the port pair of each
PS/2 device (R83). -/
inductive Port where
  | ctrl (c : Chan)
  | data (c : Chan)
  | kbd
  | mouse
deriving DecidableEq, Repr

/-- One operation as its issuer presents it (00_scope.md R7). The operands a caller can get wrong
(an access size, a channel index, a written value) are plain numbers: R341's checks are the
decoder's. -/
inductive Op where
  /-- A bus write of `value`, `size` bytes wide, at an offset of the ESCC window (20_memory.md R80). -/
  | esccWrite (offset size value : Nat)
  /-- A bus read, `size` bytes wide, at an offset of the ESCC window. -/
  | esccRead (offset size : Nat)
  /-- The transport's `receive(byte)` callback (43_escc_data_port.md R203). -/
  | receive (chan value : Nat)
  /-- The transport reports a break condition (R205). -/
  | receiveBreak (chan : Nat)
  /-- A host key event (44_sun_keyboard_mouse.md R227). -/
  | keyEvent (chan : Nat) (qcode : Qcode) (down : Bool)
  /-- A host mouse event for an ESCC channel (44 R231). -/
  | mouseEvent (chan : Nat) (dx dy dz : Int) (buttons : Byte)
  /-- The platform's reset of the ESCC (70_reset_and_hazards.md R392). -/
  | esccReset
  /-- A write to the PS/2 keyboard's write port (45_ps2_keyboard.md R250). -/
  | kbdWrite (value : Nat)
  /-- A read of the PS/2 keyboard's read port (45 R269). -/
  | kbdRead
  /-- A keycode byte of the host (45 R267). -/
  | kbdEmit (keycode : Nat)
  /-- The platform sets translate mode (45 R271). -/
  | kbdSetTranslate (t : Bool)
  /-- The platform's reset of the PS/2 keyboard (70 R394). -/
  | kbdReset
  /-- A write to the PS/2 mouse's write port (46_ps2_mouse.md R290). -/
  | mouseWrite (value : Nat)
  /-- A read of the PS/2 mouse's read port (46 R314). -/
  | mouseRead
  /-- A host mouse event for the PS/2 mouse (46 R311). -/
  | ps2MouseEvent (dx dy dz : Int) (buttons : Byte)
  /-- The platform's reset of the PS/2 mouse (70 R395). -/
  | mouseReset
deriving DecidableEq, Repr

/-- The instructions of the block: one constructor per row of spec/opcode_table.json, in the table's
order. `ign` are the bits 7:6 a control write in Idle ignores (R111), `ptr` its bits 2:0; `low` are
the bits 5:0 of a write to WR9 (R113). -/
inductive Instr where
  -- format CW0: control-port write with `sel = 0`
  | cmdNull (c : Chan) (ign : BitVec 2) (ptr : BitVec 3)
  | cmdHi (c : Chan) (ign : BitVec 2) (ptr : BitVec 3)
  | cmdUnassigned10 (c : Chan) (ign : BitVec 2) (ptr : BitVec 3)
  | cmdUnassigned18 (c : Chan) (ign : BitVec 2) (ptr : BitVec 3)
  | cmdUnassigned20 (c : Chan) (ign : BitVec 2) (ptr : BitVec 3)
  | cmdClrTxint (c : Chan) (ign : BitVec 2) (ptr : BitVec 3)
  | cmdUnassigned30 (c : Chan) (ign : BitVec 2) (ptr : BitVec 3)
  | cmdClrIus (c : Chan) (ign : BitVec 2) (ptr : BitVec 3)
  -- formats CWn and CW9: control-port write with `sel = n`
  | wr1 (c : Chan) (v : Byte)
  | wr2 (c : Chan) (v : Byte)
  | wr3 (c : Chan) (v : Byte)
  | wr4 (c : Chan) (v : Byte)
  | wr5 (c : Chan) (v : Byte)
  | wr6 (c : Chan) (v : Byte)
  | wr7 (c : Chan) (v : Byte)
  | wr8 (c : Chan) (v : Byte)
  | wr9Store (c : Chan) (low : BitVec 6)
  | wr9RstB (c : Chan) (low : BitVec 6)
  | wr9RstA (c : Chan) (low : BitVec 6)
  | wr9RstAll (c : Chan) (low : BitVec 6)
  | wr10 (c : Chan) (v : Byte)
  | wr11 (c : Chan) (v : Byte)
  | wr12Brglo (c : Chan) (v : Byte)
  | wr13Brghi (c : Chan) (v : Byte)
  | wr14 (c : Chan) (v : Byte)
  | wr15 (c : Chan) (v : Byte)
  -- format CR: control-port read with `sel = n`
  | rr0 (c : Chan)
  | rr1 (c : Chan)
  | rr2 (c : Chan)
  | rr3 (c : Chan)
  | rr4 (c : Chan)
  | rr5 (c : Chan)
  | rr6 (c : Chan)
  | rr7 (c : Chan)
  | rr8 (c : Chan)
  | rr9 (c : Chan)
  | rr10 (c : Chan)
  | rr11 (c : Chan)
  | rr12 (c : Chan)
  | rr13 (c : Chan)
  | rr14 (c : Chan)
  | rr15 (c : Chan)
  -- format DW: data-port write
  | dwSerial (c : Chan) (v : Byte)
  | dwMouse (c : Chan) (v : Byte)
  | dwKbdTxoff (c : Chan) (v : Byte)
  | skReset (c : Chan)
  | skLayout07 (c : Chan)
  | skSetLeds (c : Chan)
  | skLayout0F (c : Chan)
  | skOther (c : Chan) (v : Byte)
  | skLedMask (c : Chan) (v : Byte)
  -- format DR: data-port read
  | dr (c : Chan)
  -- format EV: transport callbacks, host events, platform reset of the ESCC
  | receive (c : Chan) (b : Byte)
  | receiveBreak (c : Chan)
  | keyEvent (c : Chan) (q : Qcode) (down : Bool)
  | mouseEvent (c : Chan) (dx dy dz : Int) (buttons : Byte)
  | esccReset
  -- formats PC and PA: PS/2 keyboard writes
  | kbd00
  | kbd05
  | kbdSetLeds
  | kbdEcho
  | kbdScancode
  | kbdGetId
  | kbdSetRate
  | kbdEnable
  | kbdResetDisable
  | kbdResetEnable
  | kbdResetCmd
  | kbdOther (v : Byte)
  | kbdArgScancode (v : Byte)
  | kbdArgSetLeds (v : Byte)
  | kbdArgSetRate (v : Byte)
  -- formats PR and EV: PS/2 keyboard read, host event, platform operations
  | kbdRead
  | kbdEmit (k : Byte)
  | kbdSetTranslate (t : Bool)
  | kbdReset
  -- formats PC and PA: PS/2 mouse writes
  | auxSetScale11
  | auxSetScale21
  | auxSetRes
  | auxGetScale
  | auxSetStream
  | auxPoll
  | auxResetWrap
  | auxSetWrap
  | auxSetRemote
  | auxGetType
  | auxSetSample
  | auxEnableDev
  | auxDisableDev
  | auxSetDefault
  | auxReset
  | auxOther (v : Byte)
  | auxWrapExit
  | auxWrapEcho (v : Byte)
  | auxArgSetRes (v : Byte)
  | auxArgSetSample (v : Byte)
  -- formats PR and EV: PS/2 mouse read, host event, platform reset
  | mouseRead
  | ps2MouseEvent (dx dy dz : Int) (buttons : Byte)
  | mouseReset
deriving DecidableEq, Repr

end Sys2Proof
end

