-- ==== Sys2Proof/Config.lean ====
section
/-! DEFINITION. The parameters of the block (00_scope.md R4): those R4 fixes, and those it leaves OPEN
(93_implementation_defined.md U15, U16; 92_eei_decisions.md D16, D23). The latter have no body: of each
nothing is known beyond its type. Four of them (U16) are also arguments of the power-on state and plain
data of `State` (log 4); the tables and the layout byte (U15) are constants (log 5). -/

namespace Sys2Proof.Config

/-- `ESCC_QCAP` (R4): the capacity of a channel's queue. -/
abbrev esccQcap : Nat := 256

/-- `PS2_QCAP` (R4): the capacity of a PS/2 device's queue. -/
abbrev ps2Qcap : Nat := 16

/-- `IT_SHIFT` (R4, U16, OPEN): a natural number. -/
opaque itShift : Nat

/-- `CLOCK_HZ` (R4, U16, OPEN): a positive natural number. -/
opaque clockHz : ℕ+

/-- `ROLE[c]` (R4, U16, OPEN): fixed for the life of the device. -/
opaque role : Chan → Role

/-- `DISABLED[c]` (R4, U16, OPEN): fixed for the life of the device. -/
opaque disabled : Chan → Bool

/-- `LAYOUT_ID` (R4, OPEN): the second byte of the Sun keyboard's layout reply. -/
opaque layoutId : Byte

/-- `SUN_KEYCODE` (R4, R230, OPEN): a partial function from qcodes to keycodes 0x00 to 0x7F. -/
opaque sunKeycode : Qcode → Option (BitVec 7)

/-- `RAW_SET2` (R4, R268, OPEN): total on 0 to 127. -/
opaque rawSet2 : BitVec 7 → Byte

/-- `RAW_SET3` (R4, R268, OPEN): total on 0 to 127. -/
opaque rawSet3 : BitVec 7 → Byte

/-- `PS2_KEYCODES` (R4, 45_ps2_keyboard.md R272, OPEN): the keycode bytes of a key and its direction. -/
opaque ps2Keycodes : Qcode → Bool → List Byte

end Sys2Proof.Config
end

