-- ==== Sys2Proof/WellFormed.lean ====
section
/-! DEFINITION. The checks an instruction's operands must meet beyond their types: the catch-all rows
of spec/opcode_table.json do not hold the byte values that another row of the same port and state
names (30_encoding.md R129: the row with the larger mask wins). -/

namespace Sys2Proof

/-- The Sun keyboard command bytes with a row of their own (30_encoding.md R114). -/
def isSunCommand (v : Byte) : Bool :=
  v == 0x01 || v == 0x07 || v == 0x0E || v == 0x0F

/-- The PS/2 keyboard command bytes with a row of their own (30_encoding.md R124). -/
def isKbdCommand (v : Byte) : Bool :=
  v == 0x00 || v == 0x05 || v == 0xED || v == 0xEE || v == 0xF0 || v == 0xF2 || v == 0xF3 ||
  v == 0xF4 || v == 0xF5 || v == 0xF6 || v == 0xFF

/-- The PS/2 mouse command bytes with a row of their own (30_encoding.md R125). -/
def isAuxCommand (v : Byte) : Bool :=
  v == 0xE6 || v == 0xE7 || v == 0xE8 || v == 0xE9 || v == 0xEA || v == 0xEB || v == 0xEC ||
  v == 0xEE || v == 0xF0 || v == 0xF2 || v == 0xF3 || v == 0xF4 || v == 0xF5 || v == 0xF6 ||
  v == 0xFF

/-- A well-formed instruction: SK_OTHER, KBD_OTHER and AUX_OTHER hold no byte that another row of
their port and state names (44 R225, 45 R262, 46 R307), and AUX_WRAP_ECHO holds neither 0xEC nor
0xFF (46 R291). Every other operand is any value of its type. -/
def Instr.wf : Instr → Bool
  | .skOther _ v => !isSunCommand v
  | .kbdOther v => !isKbdCommand v
  | .auxOther v => !isAuxCommand v
  | .auxWrapEcho v => v != 0xEC && v != 0xFF
  | .cmdNull .. | .cmdHi .. | .cmdUnassigned10 .. | .cmdUnassigned18 .. | .cmdUnassigned20 ..
  | .cmdClrTxint .. | .cmdUnassigned30 .. | .cmdClrIus .. | .wr1 .. | .wr2 .. | .wr3 .. | .wr4 ..
  | .wr5 .. | .wr6 .. | .wr7 .. | .wr8 .. | .wr9Store .. | .wr9RstB .. | .wr9RstA ..
  | .wr9RstAll .. | .wr10 .. | .wr11 .. | .wr12Brglo .. | .wr13Brghi .. | .wr14 .. | .wr15 ..
  | .rr0 .. | .rr1 .. | .rr2 .. | .rr3 .. | .rr4 .. | .rr5 .. | .rr6 .. | .rr7 .. | .rr8 ..
  | .rr9 .. | .rr10 .. | .rr11 .. | .rr12 .. | .rr13 .. | .rr14 .. | .rr15 .. | .dwSerial ..
  | .dwMouse .. | .dwKbdTxoff .. | .skReset .. | .skLayout07 .. | .skSetLeds .. | .skLayout0F ..
  | .skLedMask .. | .dr .. | .receive .. | .receiveBreak .. | .keyEvent .. | .mouseEvent ..
  | .esccReset | .kbd00 | .kbd05 | .kbdSetLeds | .kbdEcho | .kbdScancode | .kbdGetId | .kbdSetRate
  | .kbdEnable | .kbdResetDisable | .kbdResetEnable | .kbdResetCmd | .kbdArgScancode ..
  | .kbdArgSetLeds .. | .kbdArgSetRate .. | .kbdRead | .kbdEmit .. | .kbdSetTranslate ..
  | .kbdReset | .auxSetScale11 | .auxSetScale21 | .auxSetRes | .auxGetScale | .auxSetStream
  | .auxPoll | .auxResetWrap | .auxSetWrap | .auxSetRemote | .auxGetType | .auxSetSample
  | .auxEnableDev | .auxDisableDev | .auxSetDefault | .auxReset | .auxWrapExit | .auxArgSetRes ..
  | .auxArgSetSample .. | .mouseRead | .ps2MouseEvent .. | .mouseReset => true

end Sys2Proof
end

