-- ==== Sys2Proof/Decode.lean ====
section
/-! DEFINITION. The decoder: from a presented operation and the protocol state of the block to an
instruction (spec/20_memory.md R80 to R92, 30_encoding.md R110 to R129), total, rejecting by name;
and after it the encoder, written from the same tables. -/

namespace Sys2Proof

/-! ## The protocol state -/

/-- What of a channel decides how its next operation is read (10_state.md R56; 30_encoding.md R110):
the pointer, the role, the transmit-enable bit `wr[5][3]` and the LED latch. -/
structure ChanPhase where
  sel : BitVec 4
  role : Role
  txEnabled : Bool
  ledLatch : Bool
deriving DecidableEq, Repr

/-- The sequencing state of the block, which plays the part of a program counter (10_state.md R56,
70_reset_and_hazards.md R399), with the stride parameter of the ESCC window. `kbdArg` and `auxArg`
are the two `write_cmd`s, `none` being -1. -/
structure Protocol where
  chA : ChanPhase
  chB : ChanPhase
  kbdArg : Option KbdArg
  auxArg : Option AuxArg
  wrap : Bool
  itShift : Nat
deriving DecidableEq, Repr

/-- The phase of one channel. -/
def Protocol.chan (p : Protocol) : Chan → ChanPhase
  | .A => p.chA
  | .B => p.chB

/-- The three breaches of the caller's contract (60_exceptions.md R341). -/
inductive Breach where
  | accessSize
  | channelIndex
  | valueRange
deriving DecidableEq, Repr

/-- The decoder's answer. `elsewhere` is an access outside the window, "not addressed to the block"
(20_memory.md R92; log 8). -/
inductive Decoded where
  | instr (i : Instr)
  | elsewhere
  | refused (why : Breach)
deriving DecidableEq, Repr

/-! ## Address decode -/

/-- The port an offset of the ESCC window addresses: bit `IT_SHIFT` selects the port, bit
`IT_SHIFT + 1` the channel, other bits are ignored (R80, R81, R92); none outside the window of
`4 << IT_SHIFT` bytes. -/
def decodeOffset (itShift offset : Nat) : Option Port :=
  if offset < 4 <<< itShift then
    let c : Chan := if (offset >>> (itShift + 1)) % 2 = 1 then .A else .B
    some (if (offset >>> itShift) % 2 = 1 then .data c else .ctrl c)
  else none

/-- The offset of a port in the map of R81, the PS/2 ports having none (R83; answered as 0). -/
def portOffset (itShift : Nat) : Port → Nat
  | .ctrl c => (2 * c.index) <<< itShift
  | .data c => (2 * c.index + 1) <<< itShift
  | .kbd | .mouse => 0

/-! ## Decoding a byte on a port -/

/-- A control-port write in Idle, format CW0 (30_encoding.md R111; 41_escc_control_port.md R151). -/
def decodeCommand (c : Chan) (v : Byte) : Instr :=
  let ign : BitVec 2 := v.extractLsb' 6 2
  let ptr : BitVec 3 := v.extractLsb' 0 3
  let cmd : Byte := v &&& 0x38
  if cmd = 0x00 then .cmdNull c ign ptr
  else if cmd = 0x08 then .cmdHi c ign ptr
  else if cmd = 0x10 then .cmdUnassigned10 c ign ptr
  else if cmd = 0x18 then .cmdUnassigned18 c ign ptr
  else if cmd = 0x20 then .cmdUnassigned20 c ign ptr
  else if cmd = 0x28 then .cmdClrTxint c ign ptr
  else if cmd = 0x30 then .cmdUnassigned30 c ign ptr
  else .cmdClrIus c ign ptr

/-- A control-port write with `sel = 9`, format CW9 (30_encoding.md R113; 41 R165). -/
def decodeWr9 (c : Chan) (v : Byte) : Instr :=
  let low : BitVec 6 := v.extractLsb' 0 6
  let rst : Byte := v &&& 0xC0
  if rst = 0x00 then .wr9Store c low
  else if rst = 0x40 then .wr9RstB c low
  else if rst = 0x80 then .wr9RstA c low
  else .wr9RstAll c low

/-- A control-port write with `sel = n`, formats CWn and CW9 (30_encoding.md R112, R113), `n` not 0.
Never a command (41 R175). -/
def decodeRegister (c : Chan) (n : BitVec 4) (v : Byte) : Instr :=
  match n.toNat with
  | 1 => .wr1 c v
  | 2 => .wr2 c v
  | 3 => .wr3 c v
  | 4 => .wr4 c v
  | 5 => .wr5 c v
  | 6 => .wr6 c v
  | 7 => .wr7 c v
  | 8 => .wr8 c v
  | 9 => decodeWr9 c v
  | 10 => .wr10 c v
  | 11 => .wr11 c v
  | 12 => .wr12Brglo c v
  | 13 => .wr13Brghi c v
  | 14 => .wr14 c v
  | _ => .wr15 c v

/-- `CtrlWrite(c, v)` (41 R150): a command in Idle, else a register write. -/
def decodeCtrlWrite (c : Chan) (x : ChanPhase) (v : Byte) : Instr :=
  if x.sel = 0 then decodeCommand c v else decodeRegister c x.sel v

/-- `CtrlRead(c)` (41 R173): the read register `sel` names. -/
def decodeCtrlRead (c : Chan) (x : ChanPhase) : Instr :=
  match x.sel.toNat with
  | 0 => .rr0 c
  | 1 => .rr1 c
  | 2 => .rr2 c
  | 3 => .rr3 c
  | 4 => .rr4 c
  | 5 => .rr5 c
  | 6 => .rr6 c
  | 7 => .rr7 c
  | 8 => .rr8 c
  | 9 => .rr9 c
  | 10 => .rr10 c
  | 11 => .rr11 c
  | 12 => .rr12 c
  | 13 => .rr13 c
  | 14 => .rr14 c
  | _ => .rr15 c

/-- `DataWrite(c, v)`, format DW (30_encoding.md R114; 43_escc_data_port.md R200; 44 R220: the latch
test comes before the command codes). -/
def decodeDataWrite (c : Chan) (x : ChanPhase) (v : Byte) : Instr :=
  match x.role with
  | .serial => .dwSerial c v
  | .mouse => .dwMouse c v
  | .keyboard =>
    if x.txEnabled then
      if x.ledLatch then .skLedMask c v
      else if v = 0x01 then .skReset c
      else if v = 0x07 then .skLayout07 c
      else if v = 0x0E then .skSetLeds c
      else if v = 0x0F then .skLayout0F c
      else .skOther c v
    else .dwKbdTxoff c v

/-- A PS/2 keyboard command byte (30_encoding.md R124; 45_ps2_keyboard.md R251 to R262). -/
def decodeKbdCommand (v : Byte) : Instr :=
  if v = 0x00 then .kbd00
  else if v = 0x05 then .kbd05
  else if v = 0xED then .kbdSetLeds
  else if v = 0xEE then .kbdEcho
  else if v = 0xF0 then .kbdScancode
  else if v = 0xF2 then .kbdGetId
  else if v = 0xF3 then .kbdSetRate
  else if v = 0xF4 then .kbdEnable
  else if v = 0xF5 then .kbdResetDisable
  else if v = 0xF6 then .kbdResetEnable
  else if v = 0xFF then .kbdResetCmd
  else .kbdOther v

/-- `KbdWrite(v)` (45 R250): an argument byte where one is awaited, else a command byte. -/
def decodeKbdWrite (awaited : Option KbdArg) (v : Byte) : Instr :=
  match awaited with
  | some .scancode => .kbdArgScancode v
  | some .setLeds => .kbdArgSetLeds v
  | some .setRate => .kbdArgSetRate v
  | none => decodeKbdCommand v

/-- A PS/2 mouse command byte outside the wrap filter (30_encoding.md R125; 46_ps2_mouse.md R290). -/
def decodeAuxCommand (v : Byte) : Instr :=
  if v = 0xE6 then .auxSetScale11
  else if v = 0xE7 then .auxSetScale21
  else if v = 0xE8 then .auxSetRes
  else if v = 0xE9 then .auxGetScale
  else if v = 0xEA then .auxSetStream
  else if v = 0xEB then .auxPoll
  else if v = 0xEC then .auxResetWrap
  else if v = 0xEE then .auxSetWrap
  else if v = 0xF0 then .auxSetRemote
  else if v = 0xF2 then .auxGetType
  else if v = 0xF3 then .auxSetSample
  else if v = 0xF4 then .auxEnableDev
  else if v = 0xF5 then .auxDisableDev
  else if v = 0xF6 then .auxSetDefault
  else if v = 0xFF then .auxReset
  else .auxOther v

/-- `MouseWrite(v)` (46 R290): the argument test, then the wrap filter (R291), then the command. -/
def decodeMouseWrite (awaited : Option AuxArg) (wrap : Bool) (v : Byte) : Instr :=
  match awaited with
  | some .setRes => .auxArgSetRes v
  | some .setSample => .auxArgSetSample v
  | none =>
    if wrap && v != 0xFF then
      if v = 0xEC then .auxWrapExit else .auxWrapEcho v
    else decodeAuxCommand v

/-! ## The contract checks and the decoder -/

/-- `refuse ValueRange` where the value written is above 255 (R341). -/
def withByte (value : Nat) (k : Byte → Instr) : Decoded :=
  if value < 256 then .instr (k (BitVec.ofNat 8 value)) else .refused .valueRange

/-- `refuse ChannelIndex` where the channel named is neither A nor B (R341). -/
def withChan (index : Nat) (k : Chan → Decoded) : Decoded :=
  match Chan.ofIndex index with
  | some c => k c
  | none => .refused .channelIndex

/-- An ESCC bus access: outside the window it is not addressed to the block (R92); inside it,
`refuse AccessSize` where it is not one byte wide (R82, R341); else `k` of the port. -/
def withAccess (itShift offset size : Nat) (k : Port → Decoded) : Decoded :=
  match decodeOffset itShift offset with
  | none => .elsewhere
  | some port => if size = 1 then k port else .refused .accessSize

/-- A byte written to a port. -/
def decodeWrite (p : Protocol) (port : Port) (v : Byte) : Instr :=
  match port with
  | .ctrl c => decodeCtrlWrite c (p.chan c) v
  | .data c => decodeDataWrite c (p.chan c) v
  | .kbd => decodeKbdWrite p.kbdArg v
  | .mouse => decodeMouseWrite p.auxArg p.wrap v

/-- A read of a port. -/
def decodeRead (p : Protocol) (port : Port) : Instr :=
  match port with
  | .ctrl c => decodeCtrlRead c (p.chan c)
  | .data c => .dr c
  | .kbd => .kbdRead
  | .mouse => .mouseRead

/-- The decoder of the block, total (R126: no byte value is illegal). The contract checks come before
everything else; where an operation breaks two of them, log 6 says which is named. -/
def decode (p : Protocol) : Op → Decoded
  | .esccWrite offset size value =>
    withAccess p.itShift offset size fun port => withByte value (decodeWrite p port)
  | .esccRead offset size =>
    withAccess p.itShift offset size fun port => .instr (decodeRead p port)
  | .receive n value => withChan n fun c => withByte value (.receive c)
  | .receiveBreak n => withChan n fun c => .instr (.receiveBreak c)
  | .keyEvent n q down => withChan n fun c => .instr (.keyEvent c q down)
  | .mouseEvent n dx dy dz buttons => withChan n fun c => .instr (.mouseEvent c dx dy dz buttons)
  | .esccReset => .instr .esccReset
  | .kbdWrite value => withByte value (decodeWrite p .kbd)
  | .kbdRead => .instr (decodeRead p .kbd)
  | .kbdEmit keycode => withByte keycode .kbdEmit
  | .kbdSetTranslate t => .instr (.kbdSetTranslate t)
  | .kbdReset => .instr .kbdReset
  | .mouseWrite value => withByte value (decodeWrite p .mouse)
  | .mouseRead => .instr (decodeRead p .mouse)
  | .ps2MouseEvent dx dy dz buttons => .instr (.ps2MouseEvent dx dy dz buttons)
  | .mouseReset => .instr .mouseReset

/-! ## The encoder -/

/-- A write of a byte to a port, as an operation. -/
def writeOp (itShift : Nat) (port : Port) (v : Byte) : Op :=
  match port with
  | .ctrl _ | .data _ => .esccWrite (portOffset itShift port) 1 v.toNat
  | .kbd => .kbdWrite v.toNat
  | .mouse => .mouseWrite v.toNat

/-- A read of a port, as an operation. -/
def readOp (itShift : Nat) : Port → Op
  | .ctrl c => .esccRead (portOffset itShift (.ctrl c)) 1
  | .data c => .esccRead (portOffset itShift (.data c)) 1
  | .kbd => .kbdRead
  | .mouse => .mouseRead

/-- The byte of format CW0: ignored bits 7:6, command 5:3, pointer 2:0 (R111). -/
def cw0Byte (ign : BitVec 2) (cmd : BitVec 3) (ptr : BitVec 3) : Byte := ign ++ cmd ++ ptr

/-- The byte of format CW9: reset code 7:6, bits 5:0 (R113). -/
def cw9Byte (rst : BitVec 2) (low : BitVec 6) : Byte := rst ++ low

/-- The operation that carries an instruction, at the offsets of R81 for the stride `itShift`. -/
def encode (itShift : Nat) : Instr → Op
  | .cmdNull c ign ptr => writeOp itShift (.ctrl c) (cw0Byte ign 0 ptr)
  | .cmdHi c ign ptr => writeOp itShift (.ctrl c) (cw0Byte ign 1 ptr)
  | .cmdUnassigned10 c ign ptr => writeOp itShift (.ctrl c) (cw0Byte ign 2 ptr)
  | .cmdUnassigned18 c ign ptr => writeOp itShift (.ctrl c) (cw0Byte ign 3 ptr)
  | .cmdUnassigned20 c ign ptr => writeOp itShift (.ctrl c) (cw0Byte ign 4 ptr)
  | .cmdClrTxint c ign ptr => writeOp itShift (.ctrl c) (cw0Byte ign 5 ptr)
  | .cmdUnassigned30 c ign ptr => writeOp itShift (.ctrl c) (cw0Byte ign 6 ptr)
  | .cmdClrIus c ign ptr => writeOp itShift (.ctrl c) (cw0Byte ign 7 ptr)
  | .wr1 c v => writeOp itShift (.ctrl c) v
  | .wr2 c v => writeOp itShift (.ctrl c) v
  | .wr3 c v => writeOp itShift (.ctrl c) v
  | .wr4 c v => writeOp itShift (.ctrl c) v
  | .wr5 c v => writeOp itShift (.ctrl c) v
  | .wr6 c v => writeOp itShift (.ctrl c) v
  | .wr7 c v => writeOp itShift (.ctrl c) v
  | .wr8 c v => writeOp itShift (.ctrl c) v
  | .wr9Store c low => writeOp itShift (.ctrl c) (cw9Byte 0 low)
  | .wr9RstB c low => writeOp itShift (.ctrl c) (cw9Byte 1 low)
  | .wr9RstA c low => writeOp itShift (.ctrl c) (cw9Byte 2 low)
  | .wr9RstAll c low => writeOp itShift (.ctrl c) (cw9Byte 3 low)
  | .wr10 c v => writeOp itShift (.ctrl c) v
  | .wr11 c v => writeOp itShift (.ctrl c) v
  | .wr12Brglo c v => writeOp itShift (.ctrl c) v
  | .wr13Brghi c v => writeOp itShift (.ctrl c) v
  | .wr14 c v => writeOp itShift (.ctrl c) v
  | .wr15 c v => writeOp itShift (.ctrl c) v
  | .rr0 c => readOp itShift (.ctrl c)
  | .rr1 c => readOp itShift (.ctrl c)
  | .rr2 c => readOp itShift (.ctrl c)
  | .rr3 c => readOp itShift (.ctrl c)
  | .rr4 c => readOp itShift (.ctrl c)
  | .rr5 c => readOp itShift (.ctrl c)
  | .rr6 c => readOp itShift (.ctrl c)
  | .rr7 c => readOp itShift (.ctrl c)
  | .rr8 c => readOp itShift (.ctrl c)
  | .rr9 c => readOp itShift (.ctrl c)
  | .rr10 c => readOp itShift (.ctrl c)
  | .rr11 c => readOp itShift (.ctrl c)
  | .rr12 c => readOp itShift (.ctrl c)
  | .rr13 c => readOp itShift (.ctrl c)
  | .rr14 c => readOp itShift (.ctrl c)
  | .rr15 c => readOp itShift (.ctrl c)
  | .dwSerial c v => writeOp itShift (.data c) v
  | .dwMouse c v => writeOp itShift (.data c) v
  | .dwKbdTxoff c v => writeOp itShift (.data c) v
  | .skReset c => writeOp itShift (.data c) 0x01
  | .skLayout07 c => writeOp itShift (.data c) 0x07
  | .skSetLeds c => writeOp itShift (.data c) 0x0E
  | .skLayout0F c => writeOp itShift (.data c) 0x0F
  | .skOther c v => writeOp itShift (.data c) v
  | .skLedMask c v => writeOp itShift (.data c) v
  | .dr c => readOp itShift (.data c)
  | .receive c b => .receive c.index b.toNat
  | .receiveBreak c => .receiveBreak c.index
  | .keyEvent c q down => .keyEvent c.index q down
  | .mouseEvent c dx dy dz buttons => .mouseEvent c.index dx dy dz buttons
  | .esccReset => .esccReset
  | .kbd00 => writeOp itShift .kbd 0x00
  | .kbd05 => writeOp itShift .kbd 0x05
  | .kbdSetLeds => writeOp itShift .kbd 0xED
  | .kbdEcho => writeOp itShift .kbd 0xEE
  | .kbdScancode => writeOp itShift .kbd 0xF0
  | .kbdGetId => writeOp itShift .kbd 0xF2
  | .kbdSetRate => writeOp itShift .kbd 0xF3
  | .kbdEnable => writeOp itShift .kbd 0xF4
  | .kbdResetDisable => writeOp itShift .kbd 0xF5
  | .kbdResetEnable => writeOp itShift .kbd 0xF6
  | .kbdResetCmd => writeOp itShift .kbd 0xFF
  | .kbdOther v => writeOp itShift .kbd v
  | .kbdArgScancode v => writeOp itShift .kbd v
  | .kbdArgSetLeds v => writeOp itShift .kbd v
  | .kbdArgSetRate v => writeOp itShift .kbd v
  | .kbdRead => readOp itShift .kbd
  | .kbdEmit k => .kbdEmit k.toNat
  | .kbdSetTranslate t => .kbdSetTranslate t
  | .kbdReset => .kbdReset
  | .auxSetScale11 => writeOp itShift .mouse 0xE6
  | .auxSetScale21 => writeOp itShift .mouse 0xE7
  | .auxSetRes => writeOp itShift .mouse 0xE8
  | .auxGetScale => writeOp itShift .mouse 0xE9
  | .auxSetStream => writeOp itShift .mouse 0xEA
  | .auxPoll => writeOp itShift .mouse 0xEB
  | .auxResetWrap => writeOp itShift .mouse 0xEC
  | .auxSetWrap => writeOp itShift .mouse 0xEE
  | .auxSetRemote => writeOp itShift .mouse 0xF0
  | .auxGetType => writeOp itShift .mouse 0xF2
  | .auxSetSample => writeOp itShift .mouse 0xF3
  | .auxEnableDev => writeOp itShift .mouse 0xF4
  | .auxDisableDev => writeOp itShift .mouse 0xF5
  | .auxSetDefault => writeOp itShift .mouse 0xF6
  | .auxReset => writeOp itShift .mouse 0xFF
  | .auxOther v => writeOp itShift .mouse v
  | .auxWrapExit => writeOp itShift .mouse 0xEC
  | .auxWrapEcho v => writeOp itShift .mouse v
  | .auxArgSetRes v => writeOp itShift .mouse v
  | .auxArgSetSample v => writeOp itShift .mouse v
  | .mouseRead => readOp itShift .mouse
  | .ps2MouseEvent dx dy dz buttons => .ps2MouseEvent dx dy dz buttons
  | .mouseReset => .mouseReset

/-! ## The `when` column -/

/-- The channel is a keyboard with transmit enabled and no LED mask awaited: the `when` of the Sun
keyboard command rows. -/
def ChanPhase.takesSunCommand (x : ChanPhase) : Bool :=
  x.role == .keyboard && x.txEnabled && !x.ledLatch

/-- The protocol state in which an instruction's row applies: the `when` column of
spec/opcode_table.json (30_encoding.md R129). -/
def Instr.when (p : Protocol) : Instr → Bool
  | .cmdNull c _ _ => (p.chan c).sel == 0
  | .cmdHi c _ _ => (p.chan c).sel == 0
  | .cmdUnassigned10 c _ _ => (p.chan c).sel == 0
  | .cmdUnassigned18 c _ _ => (p.chan c).sel == 0
  | .cmdUnassigned20 c _ _ => (p.chan c).sel == 0
  | .cmdClrTxint c _ _ => (p.chan c).sel == 0
  | .cmdUnassigned30 c _ _ => (p.chan c).sel == 0
  | .cmdClrIus c _ _ => (p.chan c).sel == 0
  | .wr1 c _ => (p.chan c).sel == 1
  | .wr2 c _ => (p.chan c).sel == 2
  | .wr3 c _ => (p.chan c).sel == 3
  | .wr4 c _ => (p.chan c).sel == 4
  | .wr5 c _ => (p.chan c).sel == 5
  | .wr6 c _ => (p.chan c).sel == 6
  | .wr7 c _ => (p.chan c).sel == 7
  | .wr8 c _ => (p.chan c).sel == 8
  | .wr9Store c _ => (p.chan c).sel == 9
  | .wr9RstB c _ => (p.chan c).sel == 9
  | .wr9RstA c _ => (p.chan c).sel == 9
  | .wr9RstAll c _ => (p.chan c).sel == 9
  | .wr10 c _ => (p.chan c).sel == 10
  | .wr11 c _ => (p.chan c).sel == 11
  | .wr12Brglo c _ => (p.chan c).sel == 12
  | .wr13Brghi c _ => (p.chan c).sel == 13
  | .wr14 c _ => (p.chan c).sel == 14
  | .wr15 c _ => (p.chan c).sel == 15
  | .rr0 c => (p.chan c).sel == 0
  | .rr1 c => (p.chan c).sel == 1
  | .rr2 c => (p.chan c).sel == 2
  | .rr3 c => (p.chan c).sel == 3
  | .rr4 c => (p.chan c).sel == 4
  | .rr5 c => (p.chan c).sel == 5
  | .rr6 c => (p.chan c).sel == 6
  | .rr7 c => (p.chan c).sel == 7
  | .rr8 c => (p.chan c).sel == 8
  | .rr9 c => (p.chan c).sel == 9
  | .rr10 c => (p.chan c).sel == 10
  | .rr11 c => (p.chan c).sel == 11
  | .rr12 c => (p.chan c).sel == 12
  | .rr13 c => (p.chan c).sel == 13
  | .rr14 c => (p.chan c).sel == 14
  | .rr15 c => (p.chan c).sel == 15
  | .dwSerial c _ => (p.chan c).role == .serial
  | .dwMouse c _ => (p.chan c).role == .mouse
  | .dwKbdTxoff c _ => (p.chan c).role == .keyboard && !(p.chan c).txEnabled
  | .skReset c => (p.chan c).takesSunCommand
  | .skLayout07 c => (p.chan c).takesSunCommand
  | .skSetLeds c => (p.chan c).takesSunCommand
  | .skLayout0F c => (p.chan c).takesSunCommand
  | .skOther c _ => (p.chan c).takesSunCommand
  | .skLedMask c _ => (p.chan c).role == .keyboard && (p.chan c).txEnabled && (p.chan c).ledLatch
  | .dr _ => true
  | .receive _ _ => true
  | .receiveBreak _ => true
  | .keyEvent _ _ _ => true
  | .mouseEvent _ _ _ _ _ => true
  | .esccReset => true
  | .kbd00 => p.kbdArg == none
  | .kbd05 => p.kbdArg == none
  | .kbdSetLeds => p.kbdArg == none
  | .kbdEcho => p.kbdArg == none
  | .kbdScancode => p.kbdArg == none
  | .kbdGetId => p.kbdArg == none
  | .kbdSetRate => p.kbdArg == none
  | .kbdEnable => p.kbdArg == none
  | .kbdResetDisable => p.kbdArg == none
  | .kbdResetEnable => p.kbdArg == none
  | .kbdResetCmd => p.kbdArg == none
  | .kbdOther _ => p.kbdArg == none
  | .kbdArgScancode _ => p.kbdArg == some .scancode
  | .kbdArgSetLeds _ => p.kbdArg == some .setLeds
  | .kbdArgSetRate _ => p.kbdArg == some .setRate
  | .kbdRead => true
  | .kbdEmit _ => true
  | .kbdSetTranslate _ => true
  | .kbdReset => true
  | .auxSetScale11 => p.auxArg == none && !p.wrap
  | .auxSetScale21 => p.auxArg == none && !p.wrap
  | .auxSetRes => p.auxArg == none && !p.wrap
  | .auxGetScale => p.auxArg == none && !p.wrap
  | .auxSetStream => p.auxArg == none && !p.wrap
  | .auxPoll => p.auxArg == none && !p.wrap
  | .auxResetWrap => p.auxArg == none && !p.wrap
  | .auxSetWrap => p.auxArg == none && !p.wrap
  | .auxSetRemote => p.auxArg == none && !p.wrap
  | .auxGetType => p.auxArg == none && !p.wrap
  | .auxSetSample => p.auxArg == none && !p.wrap
  | .auxEnableDev => p.auxArg == none && !p.wrap
  | .auxDisableDev => p.auxArg == none && !p.wrap
  | .auxSetDefault => p.auxArg == none && !p.wrap
  | .auxReset => p.auxArg == none
  | .auxOther _ => p.auxArg == none && !p.wrap
  | .auxWrapExit => p.auxArg == none && p.wrap
  | .auxWrapEcho _ => p.auxArg == none && p.wrap
  | .auxArgSetRes _ => p.auxArg == some .setRes
  | .auxArgSetSample _ => p.auxArg == some .setSample
  | .mouseRead => true
  | .ps2MouseEvent _ _ _ _ => true
  | .mouseReset => true

/-- The operation with an ESCC offset replaced by the lowest offset of the port it addresses: two
operations with one canonical form are the same access (R92: aliases). -/
def Op.canonical (itShift : Nat) : Op → Op
  | .esccWrite offset size value =>
    match decodeOffset itShift offset with
    | some port => .esccWrite (portOffset itShift port) size value
    | none => .esccWrite offset size value
  | .esccRead offset size =>
    match decodeOffset itShift offset with
    | some port => .esccRead (portOffset itShift port) size
    | none => .esccRead offset size
  | op => op

/-! ## A bare byte of the opcode table -/

/-- The `port` and `when` under which a bare byte is read, since the table's rows give a byte only
together with them (R129). DESIGN CHOICE (log 9): the first row of the table whose mask is 0xFF and
whose match is the byte; where there is none, the WR9 row of a non-zero reset code; where there is
none, the control write in Idle. -/
inductive TableContext where
  /-- Channel A's control port in Idle. -/
  | ctrlIdle
  /-- Channel A's control port with `sel = 9`. -/
  | ctrlWr9
  /-- The data port of channel A as a Sun keyboard with transmit enabled, no LED mask awaited. -/
  | sunKeyboard
  /-- The PS/2 keyboard's write port, no argument awaited. -/
  | ps2Keyboard
  /-- The PS/2 mouse's write port, no argument awaited, not in wrap mode. -/
  | ps2Mouse
deriving DecidableEq, Repr

/-- The context of a bare byte (log 9). -/
def tableContext (w : Nat) : TableContext :=
  let v : Byte := BitVec.ofNat 8 w
  if isSunCommand v then .sunKeyboard
  else if isKbdCommand v then .ps2Keyboard
  else if isAuxCommand v then .ps2Mouse
  else if v &&& 0xC0 = 0 then .ctrlIdle
  else .ctrlWr9

/-- The port of a context. -/
def TableContext.port : TableContext → Port
  | .ctrlIdle | .ctrlWr9 => .ctrl .A
  | .sunKeyboard => .data .A
  | .ps2Keyboard => .kbd
  | .ps2Mouse => .mouse

/-- The operation that carries the bare number `w` on the port of its context. -/
def tableOp (itShift w : Nat) : Op :=
  match (tableContext w).port with
  | .ctrl c => .esccWrite (portOffset itShift (.ctrl c)) 1 w
  | .data c => .esccWrite (portOffset itShift (.data c)) 1 w
  | .kbd => .kbdWrite w
  | .mouse => .mouseWrite w

/-- A protocol state with the context's `when`. -/
def TableContext.protocol (ctx : TableContext) : Protocol :=
  let idle : ChanPhase := { sel := 0, role := .serial, txEnabled := false, ledLatch := false }
  let chA : ChanPhase :=
    match ctx with
    | .ctrlWr9 => { idle with sel := 9 }
    | .sunKeyboard => { idle with role := .keyboard, txEnabled := true }
    | .ctrlIdle | .ps2Keyboard | .ps2Mouse => idle
  { chA := chA, chB := idle, kbdArg := none, auxArg := none, wrap := false, itShift := 0 }

/-- The instruction the decoder reads from a bare word of the opcode table. Every operation carries
at most one byte (R110), so `nbits` is not consulted; a word above 255 is refused (R341). -/
def decodeTableWord (_nbits w : Nat) : Option Instr :=
  match decode (tableContext w).protocol (tableOp 0 w) with
  | .instr i => some i
  | .elsewhere => none
  | .refused _ => none

end Sys2Proof
end

