-- ==== Sys2Proof/Machine/State.lean ====
section
/-! DEFINITION. The state of the block as plain data: every piece of state spec/10_state.md names,
the OPEN parameters an operation or the decoder reads, and the model's own two fields (the operations
presented and the outputs produced); the faults and refusals; and the state after reset. -/

namespace Sys2Proof.Machine

/-- A ByteQueue of capacity `C` (10_state.md R50): the slots, the read and write cursors, which stay
in `[0, C)` by type, and the count. -/
structure ByteQueue (C : Nat) where
  data : Vector Byte C
  rptr : Fin C
  wptr : Fin C
  count : Nat
deriving DecidableEq, Repr

/-- A queue as it is after reset (R50). The bytes of `data` are of the model's choosing and are never
observable (U14). DESIGN CHOICE (log 10). -/
def ByteQueue.empty (C : Nat) [NeZero C] : ByteQueue C :=
  { data := Vector.replicate C 0, rptr := 0, wptr := 0, count := 0 }

/-- The phase of the caps-lock or num-lock filter (R29). -/
inductive KeyPhase where
  | released
  | pressed
deriving DecidableEq, Repr

/-- The state of one ESCC channel (10_state.md R20 to R29). -/
structure Channel where
  /-- The selected register index (R23); bit 3 is the "high command bit" latch (R24). -/
  sel : BitVec 4
  /-- The write registers, `NREGS` = 16 of them (00_scope.md R4; R21, R31 to R42). -/
  wr : Vector Byte 16
  /-- The read registers, `NREGS` = 16 of them (00_scope.md R4; R22, R43 to R48). -/
  rr : Vector Byte 16
  /-- The arbiter's pending flags and under-service latches (R25). -/
  rxPending : Bool
  txPending : Bool
  rxIUS : Bool
  txIUS : Bool
  /-- The byte queue, used in the keyboard and mouse roles (R26). -/
  q : ByteQueue Config.esccQcap
  /-- The current pending input byte and the current output byte (R27). -/
  rx : Byte
  tx : Byte
  /-- The UI toggle latches (R29). -/
  capsPhase : KeyPhase
  numPhase : KeyPhase
  ledLatch : Bool
  /-- The parameters ROLE[c] and DISABLED[c], which nothing changes (R28). -/
  role : Role
  disabled : Bool
deriving DecidableEq, Repr

/-- The active scan-code set, 1, 2 or 3 (10_state.md R52). -/
inductive ScanSet where
  | set1
  | set2
  | set3
deriving DecidableEq, Repr

/-- The PS/2 keyboard device (R51, R52). `writeCmd` is the spec's `write_cmd`, `none` being -1. -/
structure Keyboard where
  q : ByteQueue Config.ps2Qcap
  writeCmd : Option KbdArg
  irq : Bool
  scanEnabled : Bool
  translate : Bool
  scancodeSet : ScanSet
  ledstate : Byte
deriving DecidableEq, Repr

/-- The detected protocol variant of the PS/2 mouse (R53): 0 (plain), 3 (IMPS2), 4 (IMEX). -/
inductive MouseType where
  | plain
  | imps2
  | imex
deriving DecidableEq, Repr

/-- The PS/2 mouse device (R51, R53 to R55). `writeCmd` is `write_cmd`, `none` being -1; `mtype` is
`type`. The accumulators are unbounded integers. -/
structure Mouse where
  q : ByteQueue Config.ps2Qcap
  writeCmd : Option AuxArg
  irq : Bool
  status : Byte
  resolution : Byte
  sampleRate : Byte
  wrap : Bool
  mtype : MouseType
  detectState : Fin 4
  dx : Int
  dy : Int
  dz : Int
  buttons : Byte
deriving DecidableEq, Repr

/-- Parity of the derived line parameters (42_escc_line_parameters.md R191). -/
inductive Parity where
  | none
  | even
  | odd
deriving DecidableEq, Repr

/-- The derived line parameters (R190). -/
structure LineParams where
  baud : Nat
  parity : Parity
  dataBits : Nat
  stopBits : Nat
deriving DecidableEq, Repr

/-- What an operation gives to the outside: the events of 00_scope.md R6 toward a collaborator, and the
byte a read returns (R7), with the port it was read from. -/
inductive Output where
  /-- `transport.write(b)` of a channel's transport (43_escc_data_port.md R206). -/
  | transportWrite (c : Chan) (b : Byte)
  /-- `transport.parametersChanged` of a channel's transport (42 R195). -/
  | parametersChanged (c : Chan) (p : LineParams)
  /-- `irq(level)` of the PS/2 keyboard (60_exceptions.md R357). -/
  | kbdIrq (level : Bool)
  /-- `irq(level)` of the PS/2 mouse (R357). -/
  | mouseIrq (level : Bool)
  /-- The return value of a read. -/
  | returned (port : Port) (b : Byte)
deriving DecidableEq, Repr

/-- OPEN parameters of 00_scope.md R4 that are numbers, CLOCK_HZ a positive one; no operation changes
them (log 4). -/
structure Params where
  itShift : Nat
  clockHz : ℕ+
deriving DecidableEq, Repr

/-- The state of the block. -/
structure State where
  /-- The two ESCC channels (10_state.md R20). -/
  chA : Channel
  chB : Channel
  /-- The two PS/2 devices (R51). -/
  kbd : Keyboard
  mouse : Mouse
  /-- IT_SHIFT and CLOCK_HZ (log 4). -/
  params : Params
  /-- The MODEL's own: the operations presented and not yet served, the next one first (log 1). -/
  inputs : List Op
  /-- The MODEL's own: the outputs produced so far, the oldest first (log 3). -/
  out : List Output
deriving DecidableEq, Repr

/-- The block raises no fault: "No behaviour of this block is treated as fault or stuck"
(93_implementation_defined.md; 60_exceptions.md R340). No constructor, so no step can fault. -/
inductive Fault where
deriving DecidableEq, Repr

/-- Why a presented operation is refused. -/
inductive Refusal where
  /-- An instruction without a meaning, raised by `exec` alone. Safe. No arm raises it. -/
  | notModelled (mnemonic : String)
  /-- `refuse AccessSize` (60_exceptions.md R341): an ESCC bus access not exactly one byte wide. Raised by
  the step's decoder. Safe: the spec puts the operation outside the block's contract. -/
  | accessSize
  /-- `refuse ChannelIndex` (R341): the channel named is neither A nor B. Raised by the step's decoder.
  Safe, as above. -/
  | channelIndex
  /-- `refuse ValueRange` (R341): the value written is above 255. Raised by the step's decoder. Safe, as
  above. -/
  | valueRange
deriving DecidableEq, Repr

/-- One channel after reset (70_reset_and_hazards.md R393). -/
def Channel.reset (role : Role) (disabled : Bool) : Channel :=
  { sel := 0
    wr := #v[0x00, 0x00, 0x00, 0x00, 0x04, 0x00, 0x00, 0x00, 0x00, 0xC0, 0x00, 0x08, 0x00, 0x00, 0x30, 0xF8]
    rr := #v[if disabled then 0x7C else 0x44, 0x07, 0x00, 0x00, 0x00, 0x00, 0x00, 0x00, 0x00, 0x00, 0x00, 0x00,
      0x00, 0x00, 0x00, 0x00]
    rxPending := false
    txPending := false
    rxIUS := false
    txIUS := false
    q := ByteQueue.empty Config.esccQcap
    rx := 0x00
    tx := 0x00
    capsPhase := .released
    numPhase := .released
    ledLatch := false
    role := role
    disabled := disabled }

/-- The PS/2 keyboard after `KbdReset` (R394). -/
def Keyboard.reset : Keyboard :=
  { q := ByteQueue.empty Config.ps2Qcap
    writeCmd := none
    irq := false
    scanEnabled := false
    translate := false
    scancodeSet := .set2
    ledstate := 0x00 }

/-- The PS/2 mouse after `MouseReset` (R395). -/
def Mouse.reset : Mouse :=
  { q := ByteQueue.empty Config.ps2Qcap
    writeCmd := none
    irq := false
    status := 0x00
    resolution := 0x00
    sampleRate := 0x00
    wrap := false
    mtype := .plain
    detectState := 0
    dx := 0
    dy := 0
    dz := 0
    buttons := 0x00 }

/-- The block after power-on (R396) on a platform with the given parameters, which 00_scope.md R4 makes
arguments of the model: both channels, the keyboard and the mouse after reset. Nothing is presented yet
(log 1). -/
def State.powerOn (itShift : Nat) (clockHz : ℕ+) (role : Chan → Role) (disabled : Chan → Bool) : State :=
  { chA := Channel.reset (role .A) (disabled .A)
    chB := Channel.reset (role .B) (disabled .B)
    kbd := Keyboard.reset
    mouse := Mouse.reset
    params := { itShift := itShift, clockHz := clockHz }
    inputs := []
    out := [] }

/-- The machine right after reset: power-on under the OPEN parameters of `Config`, of whose values nothing
is known (log 4). -/
def State.reset : State := State.powerOn Config.itShift Config.clockHz Config.role Config.disabled

end Sys2Proof.Machine
end

