-- ==== Sys2Proof/Machine/Flags.lean ====
section
/-! DEFINITION. The flag bits and flag computations of the ESCC: status bits (spec/10_state.md R32 to
R46), the vector constants (60_exceptions.md R345), the pending register's bits (R351), the interrupt
request of a channel and the interrupt line (R343, R344), and the receive gate (43 R204). -/

namespace Sys2Proof.Machine

/-! ## Status bits (10_state.md R43, R44) -/

/-- `STATUS_RXAV`, RR0 bit 0. -/
def statusRxav : Byte := 0x01

/-- `STATUS_TXEMPTY`, RR0 bit 2. -/
def statusTxempty : Byte := 0x04

/-- `STATUS_DCD|STATUS_SYNC|STATUS_CTS`, RR0 bits 3 to 5. -/
def statusModem : Byte := 0x38

/-- `STATUS_TXUNDRN`, RR0 bit 6. -/
def statusTxundrn : Byte := 0x40

/-- `STATUS_BRK`, RR0 bit 7. -/
def statusBrk : Byte := 0x80

/-- `SPEC_ALLSENT`, RR1 bit 0. -/
def specAllsent : Byte := 0x01

/-- The value of RR0 after a channel reset (R43, 70 R391). -/
def statusReset (disabled : Bool) : Byte :=
  if disabled then statusTxempty ||| statusTxundrn ||| statusModem else statusTxempty ||| statusTxundrn

/-! ## Control bits the block reads -/

/-- `INTR_TXINT`: the transmit interrupt is enabled (WR1 bit 1; R32). -/
def Channel.txIntEnabled (ch : Channel) : Bool := ch.wr[1][1]

/-- The receive mode field, WR1 bits 4:3, is "first byte" (01) or "all bytes" (10) (R32). -/
def Channel.rxIntEnabled (ch : Channel) : Bool :=
  let mode : BitVec 2 := ch.wr[1].extractLsb' 3 2
  mode == 0b01 || mode == 0b10

/-- `EXTINT_BRKINT`: the break interrupt is enabled (WR15 bit 7; R42). -/
def Channel.brkIntEnabled (ch : Channel) : Bool := ch.wr[15][7]

/-- `TXCTRL2_TXEN`: transmit is enabled (WR5 bit 3; R36). -/
def Channel.txEnabled (ch : Channel) : Bool := ch.wr[5][3]

/-- `MINTR_STATUSHI`: the status-high mode bit (WR9 bit 4; R38). -/
def Channel.statusHigh (ch : Channel) : Bool := ch.wr[9][4]

/-! ## Vector constants (R345) -/

/-- `NOINT(hi)`. -/
def noIntVec (hi : Bool) : Byte := if hi then 0x60 else 0x06

/-- `RXVEC(c, hi)`. -/
def rxVec (c : Chan) (hi : Bool) : Byte :=
  match c, hi with
  | .A, false => 0x0C
  | .A, true => 0x30
  | .B, false => 0x04
  | .B, true => 0x20

/-- `TXVEC(c, hi)`. -/
def txVec (c : Chan) (hi : Bool) : Byte :=
  match c, hi with
  | .A, false => 0x08
  | .A, true => 0x10
  | .B, false => 0x00
  | .B, true => 0x00

/-! ## Bits of the pending register, channel A's RR3 (R46, R351) -/

/-- `INTR_RXINTA`, bit 5, or `INTR_RXINTB`, bit 2. -/
def rxPendingBit : Chan → Byte
  | .A => 0x20
  | .B => 0x04

/-- `INTR_TXINTA`, bit 4, or `INTR_TXINTB`, bit 1. -/
def txPendingBit : Chan → Byte
  | .A => 0x10
  | .B => 0x02

/-! ## Interrupt request and line -/

/-- `wants(c)` (R343). The under-service latches do not appear. -/
def Channel.wants (ch : Channel) : Bool :=
  (ch.txIntEnabled && ch.txPending) || (ch.rxIntEnabled && ch.rxPending) ||
    (ch.brkIntEnabled && ch.rr[0][7])

/-- The interrupt line of the ESCC, a function of the state at the end of an operation (R344). -/
def State.irqLine (s : State) : Bool := s.chA.wants || s.chB.wants

/-- `canReceive(c)` (43_escc_data_port.md R204): a pure query of the transport, not an operation. -/
def Channel.canReceive (ch : Channel) : Bool := !ch.rr[0][0]

end Sys2Proof.Machine
end

