-- ==== Sys2Proof/Machine/Operands.lean ====
section
/-! DEFINITION. The values the operations compute from their operands and from a device's state, without
any effect: clamps and byte encodings (spec/00_scope.md R5, 30_encoding.md R119 to R122), the derived
line parameters (42_escc_line_parameters.md), Sun keycodes and packets (44), scan codes (45 R267) and
PS/2 mouse packets and detection (46). -/

namespace Sys2Proof.Machine

/-! ## Signed motion values (R5, R121) -/

/-- `clamp127(x)` (R5). -/
def clamp127 (x : Int) : Int := if 127 < x then 127 else if x < -127 then -127 else x

/-- `clamp7(x)` (R5). -/
def clamp7 (x : Int) : Int := if 7 < x then 7 else if x < -7 then -7 else x

/-- `byte_of(x)` (R5): `x mod 256`, the two's complement of `x` in 8 bits. -/
def byteOf (x : Int) : Byte := BitVec.ofInt 8 x

/-! ## Derived line parameters (42_escc_line_parameters.md) -/

/-- Parity (R191): bit 0 of WR4 enables it, bit 1 selects even. -/
def deriveParity (wr4 : Byte) : Parity :=
  if wr4[0] then (if wr4[1] then .even else .odd) else .none

/-- Stop bits (R192): 2 exactly for the pattern `11` of WR4 bits 3:2. -/
def deriveStopBits (wr4 : Byte) : Nat := if wr4.extractLsb' 2 2 = 0b11#2 then 2 else 1

/-- Data bits (R193): WR5 bits 6:5. -/
def deriveDataBits (wr5 : Byte) : Nat :=
  let field : BitVec 2 := wr5.extractLsb' 5 2
  if field = 0b00 then 5 else if field = 0b01 then 7 else if field = 0b10 then 6 else 8

/-- The clock multiplier (R194): WR4 bits 7:6. -/
def clockMultiplier (wr4 : Byte) : Nat :=
  let field : BitVec 2 := wr4.extractLsb' 6 2
  if field = 0b00 then 1 else if field = 0b01 then 16 else if field = 0b10 then 32 else 64

/-- The assembled baud time constant `wr[12] | (wr[13] << 8)` (30_encoding.md R120). -/
def timeConstant (lo hi : Byte) : Nat := lo.toNat ||| (hi.toNat <<< 8)

/-- Baud (R194): the clock over `tc + 2`, then over the multiplier, both divisions truncating. -/
def deriveBaud (clockHz : ℕ+) (wr4 lo hi : Byte) : Nat :=
  clockHz / (timeConstant lo hi + 2) / clockMultiplier wr4

/-- `deriveLineParameters(wr)` (R190 to R194). -/
def deriveLineParameters (clockHz : ℕ+) (wr : Vector Byte 16) : LineParams :=
  { baud := deriveBaud clockHz wr[4] wr[12] wr[13]
    parity := deriveParity wr[4]
    dataBits := deriveDataBits wr[5]
    stopBits := deriveStopBits wr[4] }

/-! ## Sun keyboard and mouse (44_sun_keyboard_mouse.md) -/

/-- One lock-key filter (R228, R229): the phase after an edge that passes, none for one that is
suppressed. -/
def filterEdge (phase : KeyPhase) (down : Bool) : Option KeyPhase :=
  match phase, down with
  | .released, true => some .pressed
  | .pressed, true => none
  | .pressed, false => some .released
  | .released, false => none

/-- The byte of a key event, format SK (30_encoding.md R115; 44 R227): bit 7 is the release flag. -/
def sunKeyByte (k : BitVec 7) (down : Bool) : Byte :=
  if down then k.zeroExtend 8 else k.zeroExtend 8 ||| 0x80

/-- The button bits of a Sun mouse packet (R231, R233): left in bit 2, middle in bit 1, right in
bit 0, from left, right, middle in bits 0, 1, 2 of the event's mask. -/
def sunButtonBits (buttons : Byte) : Byte :=
  ((buttons &&& 0x01) <<< 2) ||| ((buttons &&& 0x04) >>> 1) ||| ((buttons &&& 0x02) >>> 1)

/-- The five bytes of a Sun mouse packet, format SM (30_encoding.md R116; 44 R231). -/
def sunMousePacket (dx dy : Int) (buttons : Byte) : List Byte :=
  [0x87 ^^^ sunButtonBits buttons, byteOf (clamp127 dx), byteOf (clamp127 (-dy)), 0x00, 0x00]

/-! ## PS/2 keyboard (45_ps2_keyboard.md) -/

/-- The acknowledge byte of both PS/2 devices. -/
def ackByte : Byte := 0xFA

/-- The power-on-reset byte of the keyboard. -/
def porByte : Byte := 0xAA

/-- The resend byte (R252). -/
def resendByte : Byte := 0xFE

/-- The reply to `GET_ID` (R253). -/
def kbdIdReply (translate : Bool) : List Byte := [ackByte, 0xAB, if translate then 0x41 else 0x83]

/-- The byte that reports the active scan-code set (R263). -/
def scanSetReport : ScanSet → Byte
  | .set1 => 0x43
  | .set2 => 0x41
  | .set3 => 0x3F

/-- The set a `SCANCODE` argument selects (R263): 1, 2, 3, or none for any other. -/
def scanSetOfArg (v : Byte) : Option ScanSet :=
  if v = 1 then some .set1 else if v = 2 then some .set2 else if v = 3 then some .set3 else none

/-- The bytes a keycode is emitted as (R267; 30_encoding.md R118). -/
def emitBytes (translate : Bool) (set : ScanSet) (k : Byte) : List Byte :=
  let key : BitVec 7 := k.truncate 7
  let breakPrefix : List Byte := if k[7] then [0xF0] else []
  if translate || 0xE0#8 ≤ k then [k]
  else
    match set with
    | .set1 => [k]
    | .set2 => breakPrefix ++ [Config.rawSet2 key]
    | .set3 => breakPrefix ++ [Config.rawSet3 key]

/-! ## PS/2 mouse (46_ps2_mouse.md) -/

/-- The number of a protocol variant, as `AUX_GET_TYPE` reports it (R53, R301). -/
def MouseType.toByte : MouseType → Byte
  | .plain => 0
  | .imps2 => 3
  | .imex => 4

/-- The length of a packet (R312). -/
def packetLength : MouseType → Nat
  | .plain => 3
  | .imps2 => 4
  | .imex => 4

/-- What a packet takes off the `dx` accumulator (R313: `sx`). -/
def Mouse.sx (m : Mouse) : Int := clamp127 m.dx

/-- The vertical amount a packet carries (R313: `sy`); it is added to the `dy` accumulator. -/
def Mouse.sy (m : Mouse) : Int := clamp127 (-m.dy)

/-- What a packet takes off the `dz` accumulator (R313: `dz1`); in the plain variant it is consumed
without being sent. -/
def Mouse.dz1 (m : Mouse) : Int :=
  match m.mtype with
  | .plain => clamp127 m.dz
  | .imps2 => clamp127 m.dz
  | .imex => clamp7 m.dz

/-- The first byte of a packet (R119, R313). -/
def Mouse.packetHead (m : Mouse) : Byte :=
  0x08 ||| (if m.sx < 0 then 0x10 else 0x00) ||| (if m.sy < 0 then 0x20 else 0x00) |||
    (m.buttons &&& 0x07)

/-- The bytes of one packet, format PM (R119, R122, R313). -/
def Mouse.packet (m : Mouse) : List Byte :=
  [m.packetHead, byteOf m.sx, byteOf m.sy] ++
    match m.mtype with
    | .plain => []
    | .imps2 => [byteOf m.dz1]
    | .imex => [(byteOf m.dz1 &&& 0x0F) ||| ((m.buttons &&& 0x18) <<< 1)]

/-- All three accumulators are zero (R311, R312). -/
def Mouse.still (m : Mouse) : Bool := m.dx == 0 && m.dy == 0 && m.dz == 0

/-- `Detect(v)` (R310): the transition table of the variant-detection sequence. -/
def detectStep (state : Fin 4) (mtype : MouseType) (v : Byte) : Fin 4 × MouseType :=
  match state with
  | 0 => if v = 200 then (1, mtype) else (0, mtype)
  | 1 => if v = 100 then (2, mtype) else if v = 200 then (3, mtype) else (0, mtype)
  | 2 => if v = 80 then (0, .imps2) else (0, mtype)
  | 3 => if v = 80 then (0, .imex) else (0, mtype)

end Sys2Proof.Machine
end

