-- ==== Sys2Proof/Machine/Ops.lean ====
section
/-! DEFINITION. The shared operations: access to the registers and devices, the byte queue
(spec/40_bytequeue.md), the interrupt arbiter's protocols, which are the block's counterpart of taking
and of leaving an exception (60_exceptions.md R345 to R356: the block takes no traps, R354), the line
parameters' update (42 R195), the PS/2 queues with their lines (60 R357), packets (46 R312, R313) and
the resets (70 R390 to R395). -/

namespace Sys2Proof.Machine

/-- The outcome of an instruction. -/
abbrev Result := Host.Outcome State Fault Refusal

/-! ## Access to channels and outputs -/

/-- The state of a channel. -/
def State.chan (s : State) : Chan → Channel
  | .A => s.chA
  | .B => s.chB

/-- The state with one channel replaced. -/
def State.setChan (s : State) (c : Chan) (ch : Channel) : State :=
  match c with
  | .A => { s with chA := ch }
  | .B => { s with chB := ch }

/-- The state with one channel changed by `f`. -/
def State.modChan (s : State) (c : Chan) (f : Channel → Channel) : State := s.setChan c (f (s.chan c))

/-- `emit`: an output appended to those produced so far (00_scope.md R6). -/
def State.emit (s : State) (o : Output) : State := { s with out := s.out ++ [o] }

/-- Store of write register `n`. -/
def Channel.setWR (ch : Channel) (n : Fin 16) (v : Byte) : Channel :=
  { ch with wr := ch.wr.set n v }

/-- Store of read register `n`. -/
def Channel.setRR (ch : Channel) (n : Fin 16) (v : Byte) : Channel :=
  { ch with rr := ch.rr.set n v }

/-- Set status bits of RR0. -/
def Channel.setStatus (ch : Channel) (bits : Byte) : Channel := ch.setRR 0 (ch.rr[0] ||| bits)

/-- Clear status bits of RR0. -/
def Channel.clearStatus (ch : Channel) (bits : Byte) : Channel := ch.setRR 0 (ch.rr[0] &&& ~~~bits)

/-- What of a channel decides how its next operation is read (10_state.md R56). -/
def Channel.phase (ch : Channel) : ChanPhase :=
  { sel := ch.sel, role := ch.role, txEnabled := ch.txEnabled, ledLatch := ch.ledLatch }

/-- The protocol state of the block (R56, R399). -/
def State.protocol (s : State) : Protocol :=
  { chA := s.chA.phase
    chB := s.chB.phase
    kbdArg := s.kbd.writeCmd
    auxArg := s.mouse.writeCmd
    wrap := s.mouse.wrap
    itShift := s.params.itShift }

/-! ## The byte queue (40_bytequeue.md) -/

section Queue

variable {C : Nat} [NeZero C]

/-- The test of `push` (R140). -/
def ByteQueue.isFull (q : ByteQueue C) : Bool := q.count == C

/-- The append of an accepted `push` (R140): store at the write cursor, advance it modulo `C`. -/
def ByteQueue.enqueue (q : ByteQueue C) (b : Byte) : ByteQueue C :=
  { q with data := q.data.set q.wptr b, wptr := q.wptr + 1, count := q.count + 1 }

/-- The byte in a slot. -/
def ByteQueue.slot (q : ByteQueue C) (i : Fin C) : Byte := q.data[i]

/-- The byte at the read cursor. -/
def ByteQueue.front (q : ByteQueue C) : Byte := q.slot q.rptr

/-- The removal of a `pop` that finds a byte (R141): advance the read cursor modulo `C`. The slot keeps
its byte. -/
def ByteQueue.dequeue (q : ByteQueue C) : ByteQueue C :=
  { q with rptr := q.rptr + 1, count := q.count - 1 }

/-- `clear(q)` (R142): cursors and count to 0; the slots keep their bytes (R50). -/
def ByteQueue.clear (q : ByteQueue C) : ByteQueue C :=
  { q with rptr := 0, wptr := 0, count := 0 }

/-- The queued bytes, head first: the `count` slots that start at the read cursor (R50). -/
def ByteQueue.contents (q : ByteQueue C) : List Byte :=
  (List.range q.count).map fun i => q.slot (q.rptr + Fin.ofNat C i)

/-- The invariant of a queue (R50): the count is at most the capacity, and the write cursor lies `count`
slots after the read cursor. -/
def ByteQueue.wf (q : ByteQueue C) : Bool :=
  decide (q.count ≤ C) && q.wptr == q.rptr + Fin.ofNat C q.count

end Queue

/-! ## The interrupt arbiter (60_exceptions.md) -/

/-- Write the vector register a channel's protocol reports in: its sibling's RR2 (R346). -/
def State.setVector (s : State) (c : Chan) (v : Byte) : State := s.modChan c.sib (·.setRR 2 v)

/-- Set bits of the pending register, channel A's RR3 (R351). -/
def State.setPendingBits (s : State) (bits : Byte) : State :=
  s.modChan .A fun ch => ch.setRR 3 (ch.rr[3] ||| bits)

/-- Clear bits of the pending register, channel A's RR3 (R351). -/
def State.clearPendingBits (s : State) (bits : Byte) : State :=
  s.modChan .A fun ch => ch.setRR 3 (ch.rr[3] &&& ~~~bits)

/-- `SetRx(c)` (R346): receive becomes pending and under service at once. -/
def setRx (c : Chan) (s : State) : State :=
  let s1 := s.modChan c fun ch => { ch with rxPending := true, rxIUS := true }
  let s2 := s1.setVector c (rxVec c (s.chan c).statusHigh)
  s2.setPendingBits (rxPendingBit c)

/-- `SetTx(c)` (R347): transmit becomes pending, and under service unless receive is. -/
def setTx (c : Chan) (s : State) : State :=
  let s1 := s.modChan c fun ch => { ch with txPending := true }
  if (s.chan c).rxIUS then s1
  else
    let s2 := s1.modChan c fun ch => { ch with txIUS := true }
    let s3 := s2.setVector c (txVec c (s.chan c).statusHigh)
    s3.setPendingBits (txPendingBit c)

/-- `ClearRx(c)` (R348): receive is retired; a pending transmit runs SetTx again. -/
def clearRx (c : Chan) (s : State) : State :=
  let s1 := s.modChan c fun ch => { ch with rxPending := false, rxIUS := false }
  let s2 := s1.setVector c (noIntVec (s.chan c).statusHigh)
  let s3 := s2.clearPendingBits (rxPendingBit c)
  if (s.chan c).txPending then setTx c s3 else s3

/-- `ClearTx(c)` (R349): transmit is retired; a pending receive runs SetRx again. -/
def clearTx (c : Chan) (s : State) : State :=
  let s1 := s.modChan c fun ch => { ch with txPending := false, txIUS := false }
  let s2 := s1.setVector c (noIntVec (s.chan c).statusHigh)
  let s3 := s2.clearPendingBits (txPendingBit c)
  if (s.chan c).rxPending then setRx c s3 else s3

/-- `ClearIUS(c)` (R350): the highest under-service latch is cleared; where it was receive's, a
pending transmit runs SetTx. -/
def clearIUS (c : Chan) (s : State) : State :=
  if (s.chan c).rxIUS then
    let s1 := s.modChan c fun ch => { ch with rxIUS := false }
    if (s.chan c).txPending then setTx c s1 else s1
  else if (s.chan c).txIUS then s.modChan c fun ch => { ch with txIUS := false }
  else s

/-! ## The queue of a channel (43_escc_data_port.md R202; 40_bytequeue.md R143) -/

/-- `DataAvailable(c)` (R202). -/
def dataAvailable (c : Chan) (s : State) : State := setRx c (s.modChan c (·.setStatus statusRxav))

/-- `push(c.q, b)` (R140): dropped when full, else appended, with one data-available effect. -/
def pushChan (c : Chan) (b : Byte) (s : State) : State :=
  if (s.chan c).q.isFull then s
  else dataAvailable c (s.modChan c fun ch => { ch with q := ch.q.enqueue b })

/-- The pushes of a multi-byte reply or packet, each deciding for itself (R140). -/
def pushChanAll (c : Chan) : List Byte → State → State
  | [], s => s
  | b :: bs, s => pushChanAll c bs (pushChan c b s)

/-- The byte `pop(c.q)` returns (R141): 0 from an empty queue. -/
def popChanValue (c : Chan) (s : State) : Byte :=
  if (s.chan c).q.count = 0 then 0x00 else (s.chan c).q.front

/-- The effect of `pop(c.q)` (R141): nothing on an empty queue; a data-available effect where bytes
remain. -/
def popChan (c : Chan) (s : State) : State :=
  if (s.chan c).q.count = 0 then s
  else
    let s1 := s.modChan c fun ch => { ch with q := ch.q.dequeue }
    if 0 < (s1.chan c).q.count then dataAvailable c s1 else s1

/-- `clear(c.q)` (R142): no side effect. -/
def clearChan (c : Chan) (s : State) : State := s.modChan c fun ch => { ch with q := ch.q.clear }

/-! ## Control-port operations (41_escc_control_port.md) -/

/-- Latching the pointer (R156). -/
def latchPointer (c : Chan) (n : BitVec 4) (s : State) : State :=
  s.modChan c fun ch => { ch with sel := n }

/-- The pointer of a command without point-high: `v & 0x07` (R151). -/
def lowPointer (ptr : BitVec 3) : BitVec 4 := ptr.zeroExtend 4

/-- The pointer of the point-high command: `(v & 0x07) | 0x08` (R153). -/
def highPointer (ptr : BitVec 3) : BitVec 4 := ptr.zeroExtend 4 ||| 0b1000

/-- Store of write register `n` with return to Idle (R157 to R172). -/
def storeWR (c : Chan) (n : Fin 16) (v : Byte) (s : State) : State :=
  s.modChan c fun ch => { ch.setWR n v with sel := 0 }

/-- `UpdateParameters(c)` (42_escc_line_parameters.md R195): one event, on a `serial` channel only. -/
def updateParameters (c : Chan) (s : State) : State :=
  match (s.chan c).role with
  | .serial => s.emit (.parametersChanged c (deriveLineParameters s.params.clockHz (s.chan c).wr))
  | .keyboard => s
  | .mouse => s

/-- The register write of WR9 without a reset code and with `v[7:6] = 00` (R165). -/
def wr9Value (low : BitVec 6) : Byte := low.zeroExtend 8

/-- `CtrlRead(c)` of read register `n` (R173): the value is returned, the pointer cleared. -/
def readRR (c : Chan) (n : Fin 16) (s : State) : State :=
  (latchPointer c 0 s).emit (.returned (.ctrl c) (s.chan c).rr[n])

/-! ## Data-port operations (43_escc_data_port.md) -/

/-- The start of `DataWrite(c, v)` (R200): the byte is the current output byte. -/
def storeTx (c : Chan) (v : Byte) (s : State) : State := s.modChan c fun ch => { ch with tx := v }

/-- The transmit bookkeeping that ends every `DataWrite(c, ·)` (R200). -/
def transmitDone (c : Chan) (s : State) : State :=
  setTx c (s.modChan c fun ch =>
    (ch.setStatus statusTxempty).setRR 1 (ch.rr[1] ||| specAllsent))

/-- A `DataWrite` around the effect its role gives it (R200). -/
def dataWrite (c : Chan) (v : Byte) (roleEffect : State → State) (s : State) : State :=
  transmitDone c (roleEffect (storeTx c v s))

/-- A Sun keyboard reply: `clear(c.q)`, then the pushes (44 R221, R223, R224). -/
def sunReply (c : Chan) (reply : List Byte) (s : State) : State :=
  pushChanAll c reply (clearChan c s)

/-- The edge filter a key event passes (44 R227 to R229): the channel with the phase moved, none for a
suppressed edge; a key that is no lock key passes. -/
def Channel.passKey (ch : Channel) (q : Qcode) (down : Bool) : Option Channel :=
  match q with
  | .capsLock => (filterEdge ch.capsPhase down).map fun ph => { ch with capsPhase := ph }
  | .numLock => (filterEdge ch.numPhase down).map fun ph => { ch with numPhase := ph }
  | .other _ => some ch

/-! ## The PS/2 queues and lines (60_exceptions.md R357) -/

/-- A write of the keyboard's `irq` bit, with its event. -/
def setKbdIrq (level : Bool) (s : State) : State :=
  { s with kbd := { s.kbd with irq := level } }.emit (.kbdIrq level)

/-- `push` on the keyboard's queue: an accepted byte raises the line. -/
def pushKbd (b : Byte) (s : State) : State :=
  if s.kbd.q.isFull then s
  else setKbdIrq true { s with kbd := { s.kbd with q := s.kbd.q.enqueue b } }

/-- The pushes of a multi-byte reply. -/
def pushKbdAll : List Byte → State → State
  | [], s => s
  | b :: bs, s => pushKbdAll bs (pushKbd b s)

/-- The byte `pop` returns from the keyboard's queue. -/
def popKbdValue (s : State) : Byte := if s.kbd.q.count = 0 then 0x00 else s.kbd.q.front

/-- The effect of `pop` on the keyboard's queue: the line is raised again where bytes remain. -/
def popKbd (s : State) : State :=
  if s.kbd.q.count = 0 then s
  else
    let s1 : State := { s with kbd := { s.kbd with q := s.kbd.q.dequeue } }
    if 0 < s1.kbd.q.count then setKbdIrq true s1 else s1

/-- `clear` of the keyboard's queue by a device rule, with `irq <- 0`. -/
def clearKbd (s : State) : State :=
  setKbdIrq false { s with kbd := { s.kbd with q := s.kbd.q.clear } }

/-- A write of the mouse's `irq` bit, with its event. -/
def setMouseIrq (level : Bool) (s : State) : State :=
  { s with mouse := { s.mouse with irq := level } }.emit (.mouseIrq level)

/-- `push` on the mouse's queue. -/
def pushMouse (b : Byte) (s : State) : State :=
  if s.mouse.q.isFull then s
  else setMouseIrq true { s with mouse := { s.mouse with q := s.mouse.q.enqueue b } }

/-- The pushes of a multi-byte reply or packet. -/
def pushMouseAll : List Byte → State → State
  | [], s => s
  | b :: bs, s => pushMouseAll bs (pushMouse b s)

/-- The byte `pop` returns from the mouse's queue. -/
def popMouseValue (s : State) : Byte := if s.mouse.q.count = 0 then 0x00 else s.mouse.q.front

/-- The effect of `pop` on the mouse's queue. -/
def popMouse (s : State) : State :=
  if s.mouse.q.count = 0 then s
  else
    let s1 : State := { s with mouse := { s.mouse with q := s.mouse.q.dequeue } }
    if 0 < s1.mouse.q.count then setMouseIrq true s1 else s1

/-- `clear` of the mouse's queue by a device rule, with `irq <- 0`. -/
def clearMouse (s : State) : State :=
  setMouseIrq false { s with mouse := { s.mouse with q := s.mouse.q.clear } }

/-! ## PS/2 keyboard (45_ps2_keyboard.md) -/

/-- `KbdFullReset()` (R266). `translate` and `write_cmd` are not touched. -/
def kbdFullReset (s : State) : State :=
  clearKbd { s with kbd := { s.kbd with scanEnabled := true, scancodeSet := .set2, ledstate := 0x00 } }

/-- A write of the keyboard's `write_cmd`. -/
def setKbdCmd (cmd : Option KbdArg) (s : State) : State :=
  { s with kbd := { s.kbd with writeCmd := cmd } }

/-- A write of `scan_enabled`. -/
def setScanEnabled (on : Bool) (s : State) : State :=
  { s with kbd := { s.kbd with scanEnabled := on } }

/-! ## PS/2 mouse (46_ps2_mouse.md) -/

/-- A write of the mouse's `write_cmd`. -/
def setAuxCmd (cmd : Option AuxArg) (s : State) : State :=
  { s with mouse := { s.mouse with writeCmd := cmd } }

/-- A write of `wrap`. -/
def setWrap (on : Bool) (s : State) : State :=
  { s with mouse := { s.mouse with wrap := on } }

/-- Set bits of the mouse's status byte (10_state.md R54). -/
def setMouseStatus (bits : Byte) (s : State) : State :=
  { s with mouse := { s.mouse with status := s.mouse.status ||| bits } }

/-- Clear bits of the mouse's status byte (R54). -/
def clearMouseStatus (bits : Byte) (s : State) : State :=
  { s with mouse := { s.mouse with status := s.mouse.status &&& ~~~bits } }

/-- The defaults of `AUX_SET_DEFAULT` and `AUX_RESET` (R305, R306). -/
def mouseDefaults (s : State) : State :=
  { s with mouse := { s.mouse with sampleRate := 100, resolution := 2, status := 0x00 } }

/-- `SendPacket()` (R313): the packet's pushes, then the amounts are taken off the accumulators, even
where a push was dropped. -/
def sendPacket (s : State) : State :=
  let m := s.mouse
  let s1 := pushMouseAll m.packet s
  { s1 with mouse := { s1.mouse with dx := m.dx - m.sx, dy := m.dy + m.sy, dz := m.dz - m.dz1 } }

/-- The loop of `MouseSync()` (R312), `fuel` bounding its turns. -/
def mouseSyncLoop : Nat → State → State
  | 0, s => s
  | fuel + 1, s =>
    if s.mouse.q.count + packetLength s.mouse.mtype ≤ Config.ps2Qcap then
      let s1 := sendPacket s
      if s1.mouse.still then s1 else mouseSyncLoop fuel s1
    else s

/-- `MouseSync()` (R312). Each packet adds at least three bytes to a queue of 16, so the loop ends
within 16 turns whatever the state (log 13). -/
def mouseSync (s : State) : State := mouseSyncLoop Config.ps2Qcap s

/-! ## Resets (70_reset_and_hazards.md) -/

/-- The write registers `ResetChannel` leaves (R391). -/
def resetWR : Vector Byte 16 :=
  ((((((Vector.replicate 16 0x00).set 4 0x04).set 9 0xC0).set 11 0x08).set 14 0x30).set 15 0xF8)

/-- The read registers `ResetChannel` leaves (R391). -/
def resetRR (disabled : Bool) : Vector Byte 16 :=
  ((Vector.replicate 16 0x00).set 0 (statusReset disabled)).set 1 0x07

/-- What `ResetChannel` makes of a channel (R391): all but the parameters `role` and `disabled`, and the
bytes in the queue's slots. -/
def Channel.afterReset (ch : Channel) : Channel :=
  { sel := 0
    wr := resetWR
    rr := resetRR ch.disabled
    rxPending := false
    txPending := false
    rxIUS := false
    txIUS := false
    q := ch.q.clear
    rx := 0x00
    tx := 0x00
    capsPhase := .released
    numPhase := .released
    ledLatch := false
    role := ch.role
    disabled := ch.disabled }

/-- `ResetChannel(c)` (R391). No state of the sibling is touched and no event is emitted. -/
def resetChannel (c : Chan) (s : State) : State := s.modChan c Channel.afterReset

/-- `EsccReset` (R392). -/
def esccResetAll (s : State) : State := resetChannel .B (resetChannel .A s)

/-- `KbdReset` (R394). -/
def kbdDeviceReset (s : State) : State :=
  let s1 := clearKbd s
  { s1 with
    kbd :=
      { s1.kbd with
        writeCmd := none
        scanEnabled := false
        translate := false
        scancodeSet := .set2
        ledstate := 0x00 } }

/-- `MouseReset` (R395). -/
def mouseDeviceReset (s : State) : State :=
  let s1 := clearMouse s
  { s1 with
    mouse :=
      { s1.mouse with
        writeCmd := none
        status := 0x00
        resolution := 0x00
        sampleRate := 0x00
        wrap := false
        mtype := .plain
        detectState := 0
        dx := 0
        dy := 0
        dz := 0
        buttons := 0x00 } }

end Sys2Proof.Machine
end

