-- ==== Sys2Proof/Machine/EsccControl.lean ====
section
/-! DEFINITION. The ESCC control port (spec/41_escc_control_port.md): one meaning per row of formats CW0,
CWn, CW9 and CR. A meaning is the effect of its row; that the row's `when` holds is the decoder's
business (log 14). -/

namespace Sys2Proof.Machine

/-! ## Control-port write in Idle (R151 to R156) -/

/-- CMD_NULL (R152): no command effect; the pointer is latched. -/
def execCmdNull (c : Chan) (_ign : BitVec 2) (ptr : BitVec 3) (s : State) : Result :=
  .next (latchPointer c (lowPointer ptr) s)

/-- CMD_HI (R153): the pointer is latched with bit 3 set. -/
def execCmdHi (c : Chan) (_ign : BitVec 2) (ptr : BitVec 3) (s : State) : Result :=
  .next (latchPointer c (highPointer ptr) s)

/-- CMD_UNASSIGNED_10 (R152): no command effect; the pointer is latched. -/
def execCmdUnassigned10 (c : Chan) (_ign : BitVec 2) (ptr : BitVec 3) (s : State) : Result :=
  .next (latchPointer c (lowPointer ptr) s)

/-- CMD_UNASSIGNED_18 (R152): no command effect; the pointer is latched. -/
def execCmdUnassigned18 (c : Chan) (_ign : BitVec 2) (ptr : BitVec 3) (s : State) : Result :=
  .next (latchPointer c (lowPointer ptr) s)

/-- CMD_UNASSIGNED_20 (R152): no command effect; the pointer is latched. -/
def execCmdUnassigned20 (c : Chan) (_ign : BitVec 2) (ptr : BitVec 3) (s : State) : Result :=
  .next (latchPointer c (lowPointer ptr) s)

/-- CMD_UNASSIGNED_30 (R152): no command effect; the pointer is latched. -/
def execCmdUnassigned30 (c : Chan) (_ign : BitVec 2) (ptr : BitVec 3) (s : State) : Result :=
  .next (latchPointer c (lowPointer ptr) s)

/-- CMD_CLR_TXINT (R154): ClearTx, then the pointer is latched. -/
def execCmdClrTxint (c : Chan) (_ign : BitVec 2) (ptr : BitVec 3) (s : State) : Result :=
  .next (latchPointer c (lowPointer ptr) (clearTx c s))

/-- CMD_CLR_IUS (R155): ClearIUS, then the pointer is latched. -/
def execCmdClrIus (c : Chan) (_ign : BitVec 2) (ptr : BitVec 3) (s : State) : Result :=
  .next (latchPointer c (lowPointer ptr) (clearIUS c s))

/-! ## Control-port write in PointerLatched (R157 to R172, R176) -/

/-- WR1 (R157): interrupt enables; the line, a function of state, follows. -/
def execWr1 (c : Chan) (v : Byte) (s : State) : Result := .next (storeWR c 1 v s)

/-- WR2 (R158): vector base; `rr[2]` is not changed. -/
def execWr2 (c : Chan) (v : Byte) (s : State) : Result := .next (storeWR c 2 v s)

/-- WR3 (R159): receiver control. -/
def execWr3 (c : Chan) (v : Byte) (s : State) : Result := .next (storeWR c 3 v s)

/-- WR4 (R160): parity, stop bits, clock multiplier; the line parameters are derived after the store. -/
def execWr4 (c : Chan) (v : Byte) (s : State) : Result :=
  .next (updateParameters c (storeWR c 4 v s))

/-- WR5 (R161): data bits and transmit enable; the line parameters are derived after the store. -/
def execWr5 (c : Chan) (v : Byte) (s : State) : Result :=
  .next (updateParameters c (storeWR c 5 v s))

/-- WR6 (R162): sync character. -/
def execWr6 (c : Chan) (v : Byte) (s : State) : Result := .next (storeWR c 6 v s)

/-- WR7 (R163): sync character. -/
def execWr7 (c : Chan) (v : Byte) (s : State) : Result := .next (storeWR c 7 v s)

/-- WR8 (R164): transmit buffer image; nothing is transmitted. -/
def execWr8 (c : Chan) (v : Byte) (s : State) : Result := .next (storeWR c 8 v s)

/-- WR9_STORE (R165): a byte without a reset code is stored whole. -/
def execWr9Store (c : Chan) (low : BitVec 6) (s : State) : Result :=
  .next (storeWR c 9 (wr9Value low) s)

/-- WR9_RST_B (R165, R176): channel B is reset, whichever channel was written; the byte is not stored and
the writer's pointer is not written, so it stays unless the writer is B. -/
def execWr9RstB (_c : Chan) (_low : BitVec 6) (s : State) : Result := .next (resetChannel .B s)

/-- WR9_RST_A (R165, R176): channel A is reset, whichever channel was written. -/
def execWr9RstA (_c : Chan) (_low : BitVec 6) (s : State) : Result := .next (resetChannel .A s)

/-- WR9_RST_ALL (R165): both channels are reset. -/
def execWr9RstAll (_c : Chan) (_low : BitVec 6) (s : State) : Result := .next (resetChannel .B (resetChannel .A s))

/-- WR10 (R166): miscellaneous control. -/
def execWr10 (c : Chan) (v : Byte) (s : State) : Result := .next (storeWR c 10 v s)

/-- WR11 (R167): clock mode. -/
def execWr11 (c : Chan) (v : Byte) (s : State) : Result := .next (storeWR c 11 v s)

/-- WR12_BRGLO (R168): stored, mirrored into RR12, and the line parameters are derived. -/
def execWr12Brglo (c : Chan) (v : Byte) (s : State) : Result :=
  .next (updateParameters c ((storeWR c 12 v s).modChan c (·.setRR 12 v)))

/-- WR13_BRGHI (R169): stored, mirrored into RR13, and the line parameters are derived. -/
def execWr13Brghi (c : Chan) (v : Byte) (s : State) : Result :=
  .next (updateParameters c ((storeWR c 13 v s).modChan c (·.setRR 13 v)))

/-- WR14 (R170): miscellaneous control 2. -/
def execWr14 (c : Chan) (v : Byte) (s : State) : Result := .next (storeWR c 14 v s)

/-- WR15 (R171): external/status interrupt enables; the line follows. -/
def execWr15 (c : Chan) (v : Byte) (s : State) : Result := .next (storeWR c 15 v s)

/-! ## Control-port read (R173, R174) -/

/-- RR0 (R173): returns `rr[0]`, the status register; the channel returns to Idle. -/
def execRr0 (c : Chan) (s : State) : Result := .next (readRR c 0 s)

/-- RR1 (R173): returns `rr[1]`, the special receive condition; the channel returns to Idle. -/
def execRr1 (c : Chan) (s : State) : Result := .next (readRR c 1 s)

/-- RR2 (R173): returns `rr[2]`, the vector register, which the sibling's protocols write; the channel returns to Idle. -/
def execRr2 (c : Chan) (s : State) : Result := .next (readRR c 2 s)

/-- RR3 (R173): returns `rr[3]`, the interrupt pending register; the channel returns to Idle. -/
def execRr3 (c : Chan) (s : State) : Result := .next (readRR c 3 s)

/-- RR4 (R173): returns `rr[4]`, 0x00 after any run (10_state.md R48); the channel returns to Idle. -/
def execRr4 (c : Chan) (s : State) : Result := .next (readRR c 4 s)

/-- RR5 (R173): returns `rr[5]`, 0x00 after any run (10_state.md R48); the channel returns to Idle. -/
def execRr5 (c : Chan) (s : State) : Result := .next (readRR c 5 s)

/-- RR6 (R173): returns `rr[6]`, 0x00 after any run (10_state.md R48); the channel returns to Idle. -/
def execRr6 (c : Chan) (s : State) : Result := .next (readRR c 6 s)

/-- RR7 (R173): returns `rr[7]`, 0x00 after any run (10_state.md R48); the channel returns to Idle. -/
def execRr7 (c : Chan) (s : State) : Result := .next (readRR c 7 s)

/-- RR8 (R173): returns `rr[8]`, 0x00 after any run (10_state.md R48); the channel returns to Idle. -/
def execRr8 (c : Chan) (s : State) : Result := .next (readRR c 8 s)

/-- RR9 (R173): returns `rr[9]`, 0x00 after any run (10_state.md R48); the channel returns to Idle. -/
def execRr9 (c : Chan) (s : State) : Result := .next (readRR c 9 s)

/-- RR10 (R173): returns `rr[10]`, 0x00 after any run (10_state.md R48); the channel returns to Idle. -/
def execRr10 (c : Chan) (s : State) : Result := .next (readRR c 10 s)

/-- RR11 (R173): returns `rr[11]`, 0x00 after any run (10_state.md R48); the channel returns to Idle. -/
def execRr11 (c : Chan) (s : State) : Result := .next (readRR c 11 s)

/-- RR12 (R173): returns `rr[12]`, the mirror of WR12; the channel returns to Idle. -/
def execRr12 (c : Chan) (s : State) : Result := .next (readRR c 12 s)

/-- RR13 (R173): returns `rr[13]`, the mirror of WR13; the channel returns to Idle. -/
def execRr13 (c : Chan) (s : State) : Result := .next (readRR c 13 s)

/-- RR14 (R173): returns `rr[14]`, 0x00 after any run (10_state.md R48); the channel returns to Idle. -/
def execRr14 (c : Chan) (s : State) : Result := .next (readRR c 14 s)

/-- RR15 (R173): returns `rr[15]`, 0x00 after any run (10_state.md R48); the channel returns to Idle. -/
def execRr15 (c : Chan) (s : State) : Result := .next (readRR c 15 s)

end Sys2Proof.Machine
end

