-- ==== Sys2Proof/Machine/EsccData.lean ====
section
/-! DEFINITION. The ESCC data port and the byte transport (spec/43_escc_data_port.md), the Sun keyboard
and mouse over a channel (44_sun_keyboard_mouse.md) and the platform's reset of the ESCC (70 R392): one
meaning per row of formats DW and DR and of the ESCC rows of format EV. -/

namespace Sys2Proof.Machine

/-! ## Data-port write (43 R200) -/

/-- DW_SERIAL (R200): with transmit enabled the byte goes to the transport. -/
def execDwSerial (c : Chan) (v : Byte) (s : State) : Result :=
  .next (dataWrite c v
    (fun t => if (t.chan c).txEnabled then t.emit (.transportWrite c v) else t) s)

/-- DW_MOUSE (R200): nothing beyond the transmit bookkeeping. -/
def execDwMouse (c : Chan) (v : Byte) (s : State) : Result := .next (dataWrite c v id s)

/-- DW_KBD_TXOFF (R200): with transmit disabled the byte is not a command. -/
def execDwKbdTxoff (c : Chan) (v : Byte) (s : State) : Result := .next (dataWrite c v id s)

/-- SK_RESET (44 R221): the queue is cleared and the reply FF 04 7F queued. -/
def execSkReset (c : Chan) (s : State) : Result :=
  .next (dataWrite c 0x01 (sunReply c [0xFF, 0x04, 0x7F]) s)

/-- SK_LAYOUT_07 (44 R223): the queue is cleared and the reply FE, LAYOUT_ID queued. -/
def execSkLayout07 (c : Chan) (s : State) : Result :=
  .next (dataWrite c 0x07 (sunReply c [0xFE, Config.layoutId]) s)

/-- SK_SET_LEDS (44 R222): the next such byte is the LED mask. -/
def execSkSetLeds (c : Chan) (s : State) : Result :=
  .next (dataWrite c 0x0E (fun t => t.modChan c fun ch => { ch with ledLatch := true }) s)

/-- SK_LAYOUT_0F (44 R224): as SK_LAYOUT_07. -/
def execSkLayout0F (c : Chan) (s : State) : Result :=
  .next (dataWrite c 0x0F (sunReply c [0xFE, Config.layoutId]) s)

/-- SK_OTHER (44 R225): "ignored (no reply, no error)"; the transmit bookkeeping still runs. -/
def execSkOther (c : Chan) (v : Byte) (s : State) : Result := .next (dataWrite c v id s)

/-- SK_LED_MASK (44 R226): the mask is discarded, the latch cleared. -/
def execSkLedMask (c : Chan) (v : Byte) (s : State) : Result :=
  .next (dataWrite c v (fun t => t.modChan c fun ch => { ch with ledLatch := false }) s)

/-! ## Data-port read (43 R201) -/

/-- DR (R201): rx-available is cleared and ClearRx run; then a keyboard or mouse channel pops its queue
and a serial channel answers the pending input byte. -/
def execDr (c : Chan) (s : State) : Result :=
  let s1 := clearRx c (s.modChan c (·.clearStatus statusRxav))
  match (s.chan c).role with
  | .serial => .next (s1.emit (.returned (.data c) (s1.chan c).rx))
  | .keyboard => .next ((popChan c s1).emit (.returned (.data c) (popChanValue c s1)))
  | .mouse => .next ((popChan c s1).emit (.returned (.data c) (popChanValue c s1)))

/-! ## Transport callbacks (43 R203, R205) -/

/-- Receive (R203): ignored unless the channel is serial; else the byte is the pending input byte. -/
def execReceive (c : Chan) (b : Byte) (s : State) : Result :=
  match (s.chan c).role with
  | .serial => .next (setRx c (s.modChan c fun ch => { ch.setStatus statusRxav with rx := b }))
  | .keyboard => .next s
  | .mouse => .next s

/-- ReceiveBreak (R205): ignored unless the channel is serial; else the break-status bit is set. -/
def execReceiveBreak (c : Chan) (s : State) : Result :=
  match (s.chan c).role with
  | .serial => .next (s.modChan c (·.setStatus statusBrk))
  | .keyboard => .next s
  | .mouse => .next s

/-! ## Host events (44 R227, R231) -/

/-- KeyEvent (44 R227): ignored unless the channel is a keyboard; the edge filters run before the
translation, so a phase moves even where the key has no keycode. -/
def execKeyEvent (c : Chan) (q : Qcode) (down : Bool) (s : State) : Result :=
  match (s.chan c).role with
  | .serial => .next s
  | .mouse => .next s
  | .keyboard =>
    match (s.chan c).passKey q down with
    | none => .next s
    | some ch =>
      match Config.sunKeycode q with
      | none => .next (s.setChan c ch)
      | some k => .next (pushChan c (sunKeyByte k down) (s.setChan c ch))

/-- MouseEvent (44 R231): ignored unless the channel is a mouse; else one packet of five pushes. `dz` is
ignored. -/
def execMouseEvent (c : Chan) (dx dy _dz : Int) (buttons : Byte) (s : State) : Result :=
  match (s.chan c).role with
  | .serial => .next s
  | .keyboard => .next s
  | .mouse => .next (pushChanAll c (sunMousePacket dx dy buttons) s)

/-! ## Platform (70 R392) -/

/-- EsccReset (70 R392). -/
def execEsccReset (s : State) : Result := .next (esccResetAll s)

end Sys2Proof.Machine
end

