-- ==== Sys2Proof/Machine/Ps2Keyboard.lean ====
section
/-! DEFINITION. The PS/2 keyboard device (spec/45_ps2_keyboard.md; 70 R394): one meaning per KBD_ row and
for KbdRead, KbdEmit, KbdSetTranslate and KbdReset. -/

namespace Sys2Proof.Machine

/-! ## Command bytes (R251 to R262) -/

/-- KBD_00 (R251): ACK. -/
def execKbd00 (s : State) : Result := .next (pushKbd ackByte s)

/-- KBD_05 (R252): RESEND. -/
def execKbd05 (s : State) : Result := .next (pushKbd resendByte s)

/-- KBD_SET_LEDS (R257): the argument is awaited; ACK. -/
def execKbdSetLeds (s : State) : Result := .next (pushKbd ackByte (setKbdCmd (some .setLeds) s))

/-- KBD_ECHO (R254): the command byte is echoed. -/
def execKbdEcho (s : State) : Result := .next (pushKbd 0xEE s)

/-- KBD_SCANCODE (R256): the argument is awaited; ACK. -/
def execKbdScancode (s : State) : Result := .next (pushKbd ackByte (setKbdCmd (some .scancode) s))

/-- KBD_GET_ID (R253): ACK and two identification bytes. -/
def execKbdGetId (s : State) : Result := .next (pushKbdAll (kbdIdReply s.kbd.translate) s)

/-- KBD_SET_RATE (R258): the argument is awaited; ACK. -/
def execKbdSetRate (s : State) : Result := .next (pushKbd ackByte (setKbdCmd (some .setRate) s))

/-- KBD_ENABLE (R255): scanning is enabled; ACK. -/
def execKbdEnable (s : State) : Result := .next (pushKbd ackByte (setScanEnabled true s))

/-- KBD_RESET_DISABLE (R259): full reset, scanning disabled; ACK. -/
def execKbdResetDisable (s : State) : Result :=
  .next (pushKbd ackByte (setScanEnabled false (kbdFullReset s)))

/-- KBD_RESET_ENABLE (R260): full reset, scanning enabled; ACK. -/
def execKbdResetEnable (s : State) : Result :=
  .next (pushKbd ackByte (setScanEnabled true (kbdFullReset s)))

/-- KBD_RESET (R261): full reset; ACK and the power-on-reset byte, two bytes (90_conflicts.md C4). -/
def execKbdResetCmd (s : State) : Result := .next (pushKbdAll [ackByte, porByte] (kbdFullReset s))

/-- KBD_OTHER (R262): "any other byte→ACK (permissive fallback)". -/
def execKbdOther (_v : Byte) (s : State) : Result := .next (pushKbd ackByte s)

/-! ## Argument bytes (R263 to R265) -/

/-- KBD_ARG_SCANCODE (R263): 0 reports the active set, 1 to 3 select it, any other changes nothing. -/
def execKbdArgScancode (v : Byte) (s : State) : Result :=
  if v = 0 then .next (setKbdCmd none (pushKbd (scanSetReport s.kbd.scancodeSet) s))
  else
    match scanSetOfArg v with
    | some set =>
      .next (setKbdCmd none (pushKbd ackByte { s with kbd := { s.kbd with scancodeSet := set } }))
    | none => .next (setKbdCmd none (pushKbd ackByte s))

/-- KBD_ARG_SET_LEDS (R264): the LED byte is stored; ACK. -/
def execKbdArgSetLeds (v : Byte) (s : State) : Result :=
  .next (setKbdCmd none (pushKbd ackByte { s with kbd := { s.kbd with ledstate := v } }))

/-- KBD_ARG_SET_RATE (R265): ACK; the value has no effect. -/
def execKbdArgSetRate (_v : Byte) (s : State) : Result := .next (setKbdCmd none (pushKbd ackByte s))

/-! ## Reading, host event, platform -/

/-- KbdRead (R269): the line is lowered, the queue popped (which raises it again where bytes remain). -/
def execKbdRead (s : State) : Result :=
  let s1 := setKbdIrq false s
  .next ((popKbd s1).emit (.returned .kbd (popKbdValue s1)))

/-- KbdEmit (R267): the keycode's bytes are queued. -/
def execKbdEmit (k : Byte) (s : State) : Result :=
  .next (pushKbdAll (emitBytes s.kbd.translate s.kbd.scancodeSet k) s)

/-- KbdSetTranslate (R271). -/
def execKbdSetTranslate (t : Bool) (s : State) : Result :=
  .next { s with kbd := { s.kbd with translate := t } }

/-- KbdReset (70 R394). -/
def execKbdReset (s : State) : Result := .next (kbdDeviceReset s)

end Sys2Proof.Machine
end

