-- ==== Sys2Proof/Machine/Ps2Mouse.lean ====
section
/-! DEFINITION. The PS/2 mouse device (spec/46_ps2_mouse.md; 70 R395): one meaning per AUX_ row and for
MouseRead, Ps2MouseEvent and MouseReset. -/

namespace Sys2Proof.Machine

/-! ## Command bytes (R292 to R307) -/

/-- AUX_SET_SCALE11 (R292). -/
def execAuxSetScale11 (s : State) : Result := .next (pushMouse ackByte (clearMouseStatus 0x10 s))

/-- AUX_SET_SCALE21 (R293). -/
def execAuxSetScale21 (s : State) : Result := .next (pushMouse ackByte (setMouseStatus 0x10 s))

/-- AUX_SET_RES (R294): the argument is awaited. -/
def execAuxSetRes (s : State) : Result := .next (pushMouse ackByte (setAuxCmd (some .setRes) s))

/-- AUX_GET_SCALE (R295): ACK, `status`, `resolution`, `sample_rate`. -/
def execAuxGetScale (s : State) : Result :=
  .next (pushMouseAll [ackByte, s.mouse.status, s.mouse.resolution, s.mouse.sampleRate] s)

/-- AUX_SET_STREAM (R296). -/
def execAuxSetStream (s : State) : Result := .next (pushMouse ackByte (clearMouseStatus 0x40 s))

/-- AUX_POLL (R297): ACK and exactly one packet, without the room test. -/
def execAuxPoll (s : State) : Result := .next (sendPacket (pushMouse ackByte s))

/-- AUX_RESET_WRAP outside wrap mode (R298). -/
def execAuxResetWrap (s : State) : Result := .next (pushMouse ackByte (setWrap false s))

/-- AUX_SET_WRAP (R299). -/
def execAuxSetWrap (s : State) : Result := .next (pushMouse ackByte (setWrap true s))

/-- AUX_SET_REMOTE (R300). -/
def execAuxSetRemote (s : State) : Result := .next (pushMouse ackByte (setMouseStatus 0x40 s))

/-- AUX_GET_TYPE (R301). -/
def execAuxGetType (s : State) : Result :=
  .next (pushMouseAll [ackByte, s.mouse.mtype.toByte] s)

/-- AUX_SET_SAMPLE (R302): the argument is awaited. -/
def execAuxSetSample (s : State) : Result := .next (pushMouse ackByte (setAuxCmd (some .setSample) s))

/-- AUX_ENABLE_DEV (R303). -/
def execAuxEnableDev (s : State) : Result := .next (pushMouse ackByte (setMouseStatus 0x20 s))

/-- AUX_DISABLE_DEV (R304). -/
def execAuxDisableDev (s : State) : Result := .next (pushMouse ackByte (clearMouseStatus 0x20 s))

/-- AUX_SET_DEFAULT (R305). -/
def execAuxSetDefault (s : State) : Result := .next (pushMouse ackByte (mouseDefaults s))

/-- AUX_RESET (R306), in and out of wrap mode: the defaults and type 0; ACK, 0xAA and the type. The queue
is not cleared, `wrap` stays. -/
def execAuxReset (s : State) : Result :=
  let s1 := mouseDefaults s
  let s2 : State := { s1 with mouse := { s1.mouse with mtype := .plain } }
  .next (pushMouseAll [ackByte, 0xAA, s2.mouse.mtype.toByte] s2)

/-- AUX_OTHER (R307): ignored; no reply, no state change. -/
def execAuxOther (_v : Byte) (s : State) : Result := .next s

/-! ## The wrap filter (R291) -/

/-- AUX_WRAP_EXIT (R291): wrap mode ends; ACK. -/
def execAuxWrapExit (s : State) : Result := .next (pushMouse ackByte (setWrap false s))

/-- AUX_WRAP_ECHO (R291): the byte is echoed. -/
def execAuxWrapEcho (v : Byte) (s : State) : Result := .next (pushMouse v s)

/-! ## Argument bytes (R308, R309) -/

/-- AUX_ARG_SET_RES (R308). -/
def execAuxArgSetRes (v : Byte) (s : State) : Result :=
  .next (setAuxCmd none (pushMouse ackByte { s with mouse := { s.mouse with resolution := v } }))

/-- AUX_ARG_SET_SAMPLE (R309): the rate is stored and steps the detection sequence (R310). -/
def execAuxArgSetSample (v : Byte) (s : State) : Result :=
  let d := detectStep s.mouse.detectState s.mouse.mtype v
  let s1 : State :=
    { s with mouse := { s.mouse with sampleRate := v, detectState := d.1, mtype := d.2 } }
  .next (setAuxCmd none (pushMouse ackByte s1))

/-! ## Reading, host event, platform -/

/-- MouseRead (R314). -/
def execMouseRead (s : State) : Result :=
  let s1 := setMouseIrq false s
  .next ((popMouse s1).emit (.returned .mouse (popMouseValue s1)))

/-- Ps2MouseEvent (R311): ignored while the device is not enabled; else accumulated, and, in stream mode,
synchronised unless nothing changed. -/
def execPs2MouseEvent (ex ey ez : Int) (b : Byte) (s : State) : Result :=
  if s.mouse.status[5] then
    let s1 : State :=
      { s with
        mouse :=
          { s.mouse with dx := s.mouse.dx + ex, dy := s.mouse.dy + ey, dz := s.mouse.dz + ez } }
    if s1.mouse.still && s1.mouse.buttons == b then .next s1
    else
      let s2 : State := { s1 with mouse := { s1.mouse with buttons := b } }
      if s2.mouse.status[6] then .next s2 else .next (mouseSync s2)
  else .next s

/-- MouseReset (70 R395). -/
def execMouseReset (s : State) : Result := .next (mouseDeviceReset s)

end Sys2Proof.Machine
end

