-- ==== Sys2Proof/Machine/Dispatch.lean ====
section
/-! DEFINITION. The dispatch: one arm per constructor of `Instr`, each one direct call of its meaning. -/

namespace Sys2Proof.Machine

def exec (i : Instr) (s : State) : Host.Outcome State Fault Refusal :=
  match i with
  | .cmdNull c ign ptr => Sys2Proof.Machine.execCmdNull c ign ptr s
  | .cmdHi c ign ptr => Sys2Proof.Machine.execCmdHi c ign ptr s
  | .cmdUnassigned10 c ign ptr => Sys2Proof.Machine.execCmdUnassigned10 c ign ptr s
  | .cmdUnassigned18 c ign ptr => Sys2Proof.Machine.execCmdUnassigned18 c ign ptr s
  | .cmdUnassigned20 c ign ptr => Sys2Proof.Machine.execCmdUnassigned20 c ign ptr s
  | .cmdClrTxint c ign ptr => Sys2Proof.Machine.execCmdClrTxint c ign ptr s
  | .cmdUnassigned30 c ign ptr => Sys2Proof.Machine.execCmdUnassigned30 c ign ptr s
  | .cmdClrIus c ign ptr => Sys2Proof.Machine.execCmdClrIus c ign ptr s
  | .wr1 c v => Sys2Proof.Machine.execWr1 c v s
  | .wr2 c v => Sys2Proof.Machine.execWr2 c v s
  | .wr3 c v => Sys2Proof.Machine.execWr3 c v s
  | .wr4 c v => Sys2Proof.Machine.execWr4 c v s
  | .wr5 c v => Sys2Proof.Machine.execWr5 c v s
  | .wr6 c v => Sys2Proof.Machine.execWr6 c v s
  | .wr7 c v => Sys2Proof.Machine.execWr7 c v s
  | .wr8 c v => Sys2Proof.Machine.execWr8 c v s
  | .wr9Store c low => Sys2Proof.Machine.execWr9Store c low s
  | .wr9RstB c low => Sys2Proof.Machine.execWr9RstB c low s
  | .wr9RstA c low => Sys2Proof.Machine.execWr9RstA c low s
  | .wr9RstAll c low => Sys2Proof.Machine.execWr9RstAll c low s
  | .wr10 c v => Sys2Proof.Machine.execWr10 c v s
  | .wr11 c v => Sys2Proof.Machine.execWr11 c v s
  | .wr12Brglo c v => Sys2Proof.Machine.execWr12Brglo c v s
  | .wr13Brghi c v => Sys2Proof.Machine.execWr13Brghi c v s
  | .wr14 c v => Sys2Proof.Machine.execWr14 c v s
  | .wr15 c v => Sys2Proof.Machine.execWr15 c v s
  | .rr0 c => Sys2Proof.Machine.execRr0 c s
  | .rr1 c => Sys2Proof.Machine.execRr1 c s
  | .rr2 c => Sys2Proof.Machine.execRr2 c s
  | .rr3 c => Sys2Proof.Machine.execRr3 c s
  | .rr4 c => Sys2Proof.Machine.execRr4 c s
  | .rr5 c => Sys2Proof.Machine.execRr5 c s
  | .rr6 c => Sys2Proof.Machine.execRr6 c s
  | .rr7 c => Sys2Proof.Machine.execRr7 c s
  | .rr8 c => Sys2Proof.Machine.execRr8 c s
  | .rr9 c => Sys2Proof.Machine.execRr9 c s
  | .rr10 c => Sys2Proof.Machine.execRr10 c s
  | .rr11 c => Sys2Proof.Machine.execRr11 c s
  | .rr12 c => Sys2Proof.Machine.execRr12 c s
  | .rr13 c => Sys2Proof.Machine.execRr13 c s
  | .rr14 c => Sys2Proof.Machine.execRr14 c s
  | .rr15 c => Sys2Proof.Machine.execRr15 c s
  | .dwSerial c v => Sys2Proof.Machine.execDwSerial c v s
  | .dwMouse c v => Sys2Proof.Machine.execDwMouse c v s
  | .dwKbdTxoff c v => Sys2Proof.Machine.execDwKbdTxoff c v s
  | .skReset c => Sys2Proof.Machine.execSkReset c s
  | .skLayout07 c => Sys2Proof.Machine.execSkLayout07 c s
  | .skSetLeds c => Sys2Proof.Machine.execSkSetLeds c s
  | .skLayout0F c => Sys2Proof.Machine.execSkLayout0F c s
  | .skOther c v => Sys2Proof.Machine.execSkOther c v s
  | .skLedMask c v => Sys2Proof.Machine.execSkLedMask c v s
  | .dr c => Sys2Proof.Machine.execDr c s
  | .receive c b => Sys2Proof.Machine.execReceive c b s
  | .receiveBreak c => Sys2Proof.Machine.execReceiveBreak c s
  | .keyEvent c q down => Sys2Proof.Machine.execKeyEvent c q down s
  | .mouseEvent c dx dy dz buttons => Sys2Proof.Machine.execMouseEvent c dx dy dz buttons s
  | .esccReset => Sys2Proof.Machine.execEsccReset s
  | .kbd00 => Sys2Proof.Machine.execKbd00 s
  | .kbd05 => Sys2Proof.Machine.execKbd05 s
  | .kbdSetLeds => Sys2Proof.Machine.execKbdSetLeds s
  | .kbdEcho => Sys2Proof.Machine.execKbdEcho s
  | .kbdScancode => Sys2Proof.Machine.execKbdScancode s
  | .kbdGetId => Sys2Proof.Machine.execKbdGetId s
  | .kbdSetRate => Sys2Proof.Machine.execKbdSetRate s
  | .kbdEnable => Sys2Proof.Machine.execKbdEnable s
  | .kbdResetDisable => Sys2Proof.Machine.execKbdResetDisable s
  | .kbdResetEnable => Sys2Proof.Machine.execKbdResetEnable s
  | .kbdResetCmd => Sys2Proof.Machine.execKbdResetCmd s
  | .kbdOther v => Sys2Proof.Machine.execKbdOther v s
  | .kbdArgScancode v => Sys2Proof.Machine.execKbdArgScancode v s
  | .kbdArgSetLeds v => Sys2Proof.Machine.execKbdArgSetLeds v s
  | .kbdArgSetRate v => Sys2Proof.Machine.execKbdArgSetRate v s
  | .kbdRead => Sys2Proof.Machine.execKbdRead s
  | .kbdEmit k => Sys2Proof.Machine.execKbdEmit k s
  | .kbdSetTranslate t => Sys2Proof.Machine.execKbdSetTranslate t s
  | .kbdReset => Sys2Proof.Machine.execKbdReset s
  | .auxSetScale11 => Sys2Proof.Machine.execAuxSetScale11 s
  | .auxSetScale21 => Sys2Proof.Machine.execAuxSetScale21 s
  | .auxSetRes => Sys2Proof.Machine.execAuxSetRes s
  | .auxGetScale => Sys2Proof.Machine.execAuxGetScale s
  | .auxSetStream => Sys2Proof.Machine.execAuxSetStream s
  | .auxPoll => Sys2Proof.Machine.execAuxPoll s
  | .auxResetWrap => Sys2Proof.Machine.execAuxResetWrap s
  | .auxSetWrap => Sys2Proof.Machine.execAuxSetWrap s
  | .auxSetRemote => Sys2Proof.Machine.execAuxSetRemote s
  | .auxGetType => Sys2Proof.Machine.execAuxGetType s
  | .auxSetSample => Sys2Proof.Machine.execAuxSetSample s
  | .auxEnableDev => Sys2Proof.Machine.execAuxEnableDev s
  | .auxDisableDev => Sys2Proof.Machine.execAuxDisableDev s
  | .auxSetDefault => Sys2Proof.Machine.execAuxSetDefault s
  | .auxReset => Sys2Proof.Machine.execAuxReset s
  | .auxOther v => Sys2Proof.Machine.execAuxOther v s
  | .auxWrapExit => Sys2Proof.Machine.execAuxWrapExit s
  | .auxWrapEcho v => Sys2Proof.Machine.execAuxWrapEcho v s
  | .auxArgSetRes v => Sys2Proof.Machine.execAuxArgSetRes v s
  | .auxArgSetSample v => Sys2Proof.Machine.execAuxArgSetSample v s
  | .mouseRead => Sys2Proof.Machine.execMouseRead s
  | .ps2MouseEvent dx dy dz buttons => Sys2Proof.Machine.execPs2MouseEvent dx dy dz buttons s
  | .mouseReset => Sys2Proof.Machine.execMouseReset s

end Sys2Proof.Machine
end

