-- ==== Sys2Proof/Machine/Fetch.lean ====
section
/-! DEFINITION. Fetching: what is presented to the block next, what the decoder makes of it in the present
protocol state, and placing one operation so that it is served next (log 1). -/

namespace Sys2Proof.Machine

/-- What the block is to serve: nothing, or what its decoder reads from the operation presented first. -/
inductive Fetched where
  | idle
  | op (d : Decoded) (rest : List Op)
deriving DecidableEq, Repr

/-- The next operation, decoded in the present protocol state (00_scope.md R7; 20_memory.md R89). -/
def fetch (s : State) : Fetched :=
  match s.inputs with
  | [] => .idle
  | o :: rest => .op (decode s.protocol o) rest

/-- The refusal a breach of the caller's contract gives (60_exceptions.md R341). -/
def refusalOf : Breach → Refusal
  | .accessSize => .accessSize
  | .channelIndex => .channelIndex
  | .valueRange => .valueRange

/-- Present an operation, to be served before any other. -/
def present (o : Op) (s : State) : State := { s with inputs := o :: s.inputs }

/-- The operations by which the host's input source presents a key of the PS/2 keyboard going down or up
(45_ps2_keyboard.md R272): `KbdEmit`, once per byte of `PS2_KEYCODES(qcode, down)`. -/
def ps2KeyOps (q : Qcode) (down : Bool) : List Op :=
  (Config.ps2Keycodes q down).map fun k => .kbdEmit k.toNat

/-- Put the target of a bare table byte into the protocol state its row's `when` asks for (log 9). -/
def enterContext (ctx : TableContext) (s : State) : State :=
  match ctx with
  | .ctrlIdle => s.modChan .A fun ch => { ch with sel := 0 }
  | .ctrlWr9 => s.modChan .A fun ch => { ch with sel := 9 }
  | .sunKeyboard =>
    s.modChan .A fun ch =>
      { ch.setWR 5 (ch.wr[5] ||| 0x08) with role := .keyboard, ledLatch := false }
  | .ps2Keyboard => setKbdCmd none s
  | .ps2Mouse => setWrap false (setAuxCmd none s)

/-- The operation that carries the bare word `w` is presented, and its context entered, in a window whose
stride is that of the spec's bus encodings, `IT_SHIFT = 0` (30_encoding.md R128; log 9). -/
def placeWord (s : State) (w : Nat) : State :=
  present (tableOp 0 w)
    (enterContext (tableContext w) { s with params := { s.params with itShift := 0 } })

end Sys2Proof.Machine
end

