-- ==== Sys2Proof/Machine/Step.lean ====
section
/-! DEFINITION. One step of the block: the operation presented first is decoded and its instruction
executed, as one atomic step (spec/00_scope.md R7, 20_memory.md R87). -/

namespace Sys2Proof.Machine

/-- One step. With nothing presented the block does nothing (log 2); an access outside the ESCC window is
not addressed to it (log 8); a breach of contract is refused without any effect (R341); an instruction
is executed, and its operation then leaves `inputs`, which no instruction reads or writes. -/
def step (s : State) : Host.Outcome State Fault Refusal :=
  match fetch s with
  | .idle => .next s
  | .op .elsewhere rest => .next { s with inputs := rest }
  | .op (.refused why) _ => .refused (refusalOf why)
  | .op (.instr i) rest =>
    match exec i s with
    | .next t => .next { t with inputs := rest }
    | .fault r => .fault r
    | .refused r => .refused r

/-- `s` with the instruction of the bare table word `w` as the one that `step` serves next (logs 1, 9).
Every operation carries at most one byte (30_encoding.md R110), so `nbits` is not consulted. -/
def State.withFetchWord (s : State) (_nbits w : Nat) : State := placeWord s w

end Sys2Proof.Machine
end

