-- ==== Sys2Proof/Safety.lean ====
section
/-! DEFINITION. The terms the claims use: the invariant of a safe state, and the shapes an operation's effect
takes (what it changes, and that it changes nothing else). -/

namespace Sys2Proof.Machine

/-! ## The invariant -/

/-- What holds of channel `c` at every operation boundary (spec/10_state.md R21, R25, R38, R40, R43 to R48,
R50). -/
structure Channel.Sound (c : Chan) (ch : Channel) : Prop where
  /-- The queue's cursors and count agree (R50). -/
  queue : ch.q.wf = true
  /-- A class under service is pending (R25). -/
  rxLatch : ch.rxIUS = true → ch.rxPending = true
  txLatch : ch.txIUS = true → ch.txPending = true
  /-- WR0 is never written (R21). -/
  wr0 : ch.wr[0] = 0x00
  /-- WR9 holds its reset value or a byte without a reset code (R38). -/
  wr9 : ch.wr[9] = 0xC0 ∨ ch.wr[9] &&& 0xC0 = 0x00
  /-- Bits 6 to 1 of RR0 are those of reset (R43). -/
  status : ch.rr[0] &&& 0x7E = statusReset ch.disabled
  /-- RR1 is constant (R44, 41 R174). -/
  special : ch.rr[1] = 0x07
  /-- RR2 holds a vector constant of the sibling's (R45, 60 R345), or its reset value. -/
  vector : ch.rr[2] = 0x00 ∨ ∃ hi, ch.rr[2] = noIntVec hi ∨ ch.rr[2] = rxVec c.sib hi ∨ ch.rr[2] = txVec c.sib hi
  /-- RR3 holds pending bits on channel A and 0 on channel B (R46). -/
  pending : ch.rr[3] &&& (match c with | .A => 0xC9 | .B => 0xFF) = 0x00
  /-- RR12 and RR13 mirror WR12 and WR13 (R47). -/
  mirrorLo : ch.rr[12] = ch.wr[12]
  mirrorHi : ch.rr[13] = ch.wr[13]
  /-- The read registers no rule writes are 0 (R48). -/
  unused : ∀ n : Fin 16, (4 ≤ n.val ∧ n.val ≤ 11) ∨ 14 ≤ n.val → ch.rr[n] = 0x00

/-- What holds of the PS/2 keyboard at every operation boundary: the queue's invariant, and the line is
high exactly when bytes are queued (45 R270). -/
structure Keyboard.Sound (k : Keyboard) : Prop where
  queue : k.q.wf = true
  line : k.irq = decide (k.q.count ≠ 0)

/-- What holds of the PS/2 mouse at every operation boundary (46 R315; 10 R54: the status bits never
set). -/
structure Mouse.Sound (m : Mouse) : Prop where
  queue : m.q.wf = true
  line : m.irq = decide (m.q.count ≠ 0)
  status : m.status &&& 0x8F = 0x00

/-- The invariant of the block: a state is safe when its four parts are sound. -/
structure State.Sound (s : State) : Prop where
  chA : s.chA.Sound .A
  chB : s.chB.Sound .B
  kbd : s.kbd.Sound
  mouse : s.mouse.Sound

/-- A safe run: the block steps from `s` to `t`, every step answering a next state. -/
inductive Runs : State → State → Prop where
  | refl (s : State) : Runs s s
  | step (s t u : State) : Runs s t → Machine.step t = .next u → Runs s u

/-! ## Shapes of effects -/

/-- The read registers after an operation on channel `c` that leaves `r0` and `r1` in its RR0 and RR1,
`vec` in its sibling's RR2 and `pend` in channel A's RR3, and every other one as in `s`. -/
def rrAfter (s : State) (c : Chan) (r0 r1 vec pend : Byte) (x : Chan) (n : Fin 16) : Byte :=
  if x = c.sib ∧ n = 2 then vec
  else if x = .A ∧ n = 3 then pend
  else if x = c ∧ n = 0 then r0
  else if x = c ∧ n = 1 then r1
  else (s.chan x).rr[n]

/-- `t` is `s` after an operation on channel `c` that leaves `c` as `ch` but for its read registers, both
channels' read registers as `rr` says, every other field of the sibling and everything outside the two
channels as in `s`, and appends `out` to the outputs. -/
structure EsccEffect (c : Chan) (s t : State) (ch : Channel) (rr : Chan → Fin 16 → Byte)
    (out : List Output) : Prop where
  own : t.chan c = { ch with rr := (t.chan c).rr }
  sibling : t.chan c.sib = { s.chan c.sib with rr := (t.chan c.sib).rr }
  registers : ∀ x n, (t.chan x).rr[n] = rr x n
  rest : t = { s with chA := t.chA, chB := t.chB, out := s.out ++ out }

/-- `t` is `s` after an operation on the PS/2 keyboard that leaves it as `k` but for queue and line, the
queue holding `contents`, the line high exactly when that is not empty, everything outside the keyboard
as in `s`, and appends `out` to the outputs. -/
structure KbdEffect (s t : State) (k : Keyboard) (contents : List Byte) (out : List Output) : Prop where
  device : t.kbd = { k with q := t.kbd.q, irq := t.kbd.irq }
  queue : t.kbd.q.contents = contents
  line : t.kbd.irq = !contents.isEmpty
  rest : t = { s with kbd := t.kbd, out := s.out ++ out }

/-- The effect of queueing `reply` behind what the keyboard's queue holds: each byte that finds room is
queued and raises the line with its event, the rest is dropped (40 R140). -/
def KbdReplies (s t : State) (k : Keyboard) (reply : List Byte) : Prop :=
  KbdEffect s t k ((s.kbd.q.contents ++ reply).take Config.ps2Qcap)
    (List.replicate (min reply.length (Config.ps2Qcap - s.kbd.q.count)) (.kbdIrq true))

/-- As `KbdEffect`, for the PS/2 mouse. -/
structure MouseEffect (s t : State) (m : Mouse) (contents : List Byte) (out : List Output) : Prop where
  device : t.mouse = { m with q := t.mouse.q, irq := t.mouse.irq }
  queue : t.mouse.q.contents = contents
  line : t.mouse.irq = !contents.isEmpty
  rest : t = { s with mouse := t.mouse, out := s.out ++ out }

/-- As `KbdReplies`, for the PS/2 mouse. -/
def MouseReplies (s t : State) (m : Mouse) (reply : List Byte) : Prop :=
  MouseEffect s t m ((s.mouse.q.contents ++ reply).take Config.ps2Qcap)
    (List.replicate (min reply.length (Config.ps2Qcap - s.mouse.q.count)) (.mouseIrq true))

/-- The read registers of a state. -/
def State.rrOf (s : State) (x : Chan) (n : Fin 16) : Byte := (s.chan x).rr[n]

/-- A channel after the bookkeeping that ends every data-port write of `v` (43 R200; 60 R347), `latch`
being its LED latch: receive under service holds the transmit back. -/
def Channel.transmitted (ch : Channel) (v : Byte) (latch : Bool) : Channel :=
  { ch with tx := v, ledLatch := latch, txPending := true, txIUS := ch.txIUS || !ch.rxIUS }

/-- The read registers after a data-port write on channel `c` that queues nothing (43 R200; 60 R347,
R351). -/
def rrTransmitted (s : State) (c : Chan) : Chan → Fin 16 → Byte :=
  let ch := s.chan c
  rrAfter s c (ch.rr[0] ||| 0x04) (ch.rr[1] ||| 0x01)
    (if ch.rxIUS then (s.chan c.sib).rr[2] else txVec c ch.statusHigh)
    (if ch.rxIUS then s.chA.rr[3] else s.chA.rr[3] ||| txPendingBit c)

/-- A channel in which receive has become pending and under service (60 R346), its queue being `q`. -/
def Channel.received (ch : Channel) (q : ByteQueue Config.esccQcap) : Channel :=
  { ch with q := q, rxPending := true, rxIUS := true }

/-- The read registers after a receive condition on channel `c` (43 R202, R203; 60 R346, R351). -/
def rrReceived (s : State) (c : Chan) : Chan → Fin 16 → Byte :=
  let ch := s.chan c
  rrAfter s c (ch.rr[0] ||| 0x01) ch.rr[1] (rxVec c ch.statusHigh) (s.chA.rr[3] ||| rxPendingBit c)

/-- A channel after a data-port read that leaves nothing queued (43 R201; 60 R348), its queue being `q`:
receive is retired, a pending transmit is under service. -/
def Channel.drained (ch : Channel) (q : ByteQueue Config.esccQcap) : Channel :=
  { ch with q := q, rxPending := false, rxIUS := false, txIUS := ch.txIUS || ch.txPending }

/-- The read registers after a data-port read of channel `c` that leaves nothing queued. -/
def rrDrained (s : State) (c : Chan) : Chan → Fin 16 → Byte :=
  let ch := s.chan c
  let kept := s.chA.rr[3] &&& ~~~(rxPendingBit c)
  rrAfter s c (ch.rr[0] &&& 0xFE) ch.rr[1]
    (if ch.txPending then txVec c ch.statusHigh else noIntVec ch.statusHigh)
    (if ch.txPending then kept ||| txPendingBit c else kept)

/-- A channel after a data-port read that leaves bytes queued (43 R201, corner case (c)): both classes can
be under service at once. -/
def Channel.reread (ch : Channel) (q : ByteQueue Config.esccQcap) : Channel :=
  { ch with q := q, rxPending := true, rxIUS := true, txIUS := ch.txIUS || ch.txPending }

/-- The read registers after a data-port read of channel `c` that leaves bytes queued. -/
def rrReread (s : State) (c : Chan) : Chan → Fin 16 → Byte :=
  let ch := s.chan c
  rrAfter s c (ch.rr[0] ||| 0x01) ch.rr[1] (rxVec c ch.statusHigh)
    (if ch.txPending then s.chA.rr[3] ||| txPendingBit c ||| rxPendingBit c
      else s.chA.rr[3] ||| rxPendingBit c)

/-- The effect of queueing `bytes` behind what the queue of channel `c` holds, the channel being otherwise
`ch` (40 R140, R143; 43 R202): what finds room is queued, the rest is dropped, and where any byte was
queued receive is pending and under service. -/
def EsccQueues (c : Chan) (s t : State) (ch : Channel) (bytes : List Byte) : Prop :=
  (t.chan c).q.contents = ((s.chan c).q.contents ++ bytes).take Config.esccQcap ∧
    if bytes ≠ [] ∧ (s.chan c).q.count < Config.esccQcap then
      EsccEffect c s t (ch.received (t.chan c).q) (rrReceived s c) []
    else t = s.setChan c ch

/-- `t` is `s` with channel `x` in the state of 70 R393, its parameters kept and its queue empty with its
cursors at 0, and everything else as in `s`. -/
structure ChannelReset (x : Chan) (s t : State) : Prop where
  channel : t.chan x = { Channel.reset (s.chan x).role (s.chan x).disabled with q := (t.chan x).q }
  queue : (t.chan x).q.count = 0 ∧ (t.chan x).q.rptr = 0 ∧ (t.chan x).q.wptr = 0
  rest : t = s.setChan x (t.chan x)

/-! ## PS/2 mouse packets -/

/-- The mouse after one packet is taken off its accumulators (46 R313). -/
def Mouse.afterPacket (m : Mouse) : Mouse :=
  { m with dx := m.dx - m.sx, dy := m.dy + m.sy, dz := m.dz - m.dz1 }

/-- The mouse after `k` packets. -/
def Mouse.afterPackets (m : Mouse) : Nat → Mouse
  | 0 => m
  | k + 1 => m.afterPacket.afterPackets k

/-- The bytes of the next `k` packets. -/
def Mouse.packets (m : Mouse) : Nat → List Byte
  | 0 => []
  | k + 1 => m.packet ++ m.afterPacket.packets k

/-! ## Which part of the block an instruction acts on -/

/-- The three parts that share nothing (20_memory.md R83, 70 R390). -/
inductive Device where
  | escc
  | kbd
  | mouse
deriving DecidableEq, Repr

end Sys2Proof.Machine

namespace Sys2Proof

/-- The device of an instruction. -/
def Instr.device : Instr → Machine.Device
  | .kbd00 | .kbd05 | .kbdSetLeds | .kbdEcho | .kbdScancode | .kbdGetId | .kbdSetRate | .kbdEnable
  | .kbdResetDisable | .kbdResetEnable | .kbdResetCmd | .kbdOther _ | .kbdArgScancode _
  | .kbdArgSetLeds _ | .kbdArgSetRate _ | .kbdRead | .kbdEmit _ | .kbdSetTranslate _ | .kbdReset => .kbd
  | .auxSetScale11 | .auxSetScale21 | .auxSetRes | .auxGetScale | .auxSetStream | .auxPoll
  | .auxResetWrap | .auxSetWrap | .auxSetRemote | .auxGetType | .auxSetSample | .auxEnableDev
  | .auxDisableDev | .auxSetDefault | .auxReset | .auxOther _ | .auxWrapExit | .auxWrapEcho _
  | .auxArgSetRes _ | .auxArgSetSample _ | .mouseRead | .ps2MouseEvent .. | .mouseReset => .mouse
  | _ => .escc

/-- The channel an ESCC instruction acts on; none for the resets of WR9 and of the platform, which name
their channels by the reset code, and for the PS/2 instructions. -/
def Instr.channel : Instr → Option Chan
  | .cmdNull c _ _ | .cmdHi c _ _ | .cmdUnassigned10 c _ _ | .cmdUnassigned18 c _ _
  | .cmdUnassigned20 c _ _ | .cmdClrTxint c _ _ | .cmdUnassigned30 c _ _ | .cmdClrIus c _ _ | .wr1 c _
  | .wr2 c _ | .wr3 c _ | .wr4 c _ | .wr5 c _ | .wr6 c _ | .wr7 c _ | .wr8 c _ | .wr9Store c _
  | .wr10 c _ | .wr11 c _ | .wr12Brglo c _ | .wr13Brghi c _ | .wr14 c _ | .wr15 c _ | .rr0 c | .rr1 c
  | .rr2 c | .rr3 c | .rr4 c | .rr5 c | .rr6 c | .rr7 c | .rr8 c | .rr9 c | .rr10 c | .rr11 c | .rr12 c
  | .rr13 c | .rr14 c | .rr15 c | .dwSerial c _ | .dwMouse c _ | .dwKbdTxoff c _ | .skReset c
  | .skLayout07 c | .skSetLeds c | .skLayout0F c | .skOther c _ | .skLedMask c _ | .dr c | .receive c _
  | .receiveBreak c | .keyEvent c _ _ | .mouseEvent c _ _ _ _ => some c
  | _ => none

/-! ## Sequencing state (70 R399) -/

/-- The decode state of channel `c` after an instruction: the rows of R399 for `sel` and `ledLatch`, the
transmit-enable bit a write of WR5 stores, and the resets. No other instruction moves it. -/
def Instr.phaseAfter (i : Instr) (c : Chan) (x : ChanPhase) : ChanPhase :=
  match i with
  | .cmdNull d _ ptr | .cmdUnassigned10 d _ ptr | .cmdUnassigned18 d _ ptr | .cmdUnassigned20 d _ ptr
  | .cmdUnassigned30 d _ ptr | .cmdClrTxint d _ ptr | .cmdClrIus d _ ptr =>
    if d = c then { x with sel := ptr.zeroExtend 4 } else x
  | .cmdHi d _ ptr => if d = c then { x with sel := ptr.zeroExtend 4 + 8 } else x
  | .wr1 d _ | .wr2 d _ | .wr3 d _ | .wr4 d _ | .wr6 d _ | .wr7 d _ | .wr8 d _ | .wr9Store d _
  | .wr10 d _ | .wr11 d _ | .wr12Brglo d _ | .wr13Brghi d _ | .wr14 d _ | .wr15 d _ =>
    if d = c then { x with sel := 0 } else x
  | .wr5 d v => if d = c then { x with sel := 0, txEnabled := v[3] } else x
  | .rr0 d | .rr1 d | .rr2 d | .rr3 d | .rr4 d | .rr5 d | .rr6 d | .rr7 d | .rr8 d | .rr9 d | .rr10 d
  | .rr11 d | .rr12 d | .rr13 d | .rr14 d | .rr15 d => if d = c then { x with sel := 0 } else x
  | .wr9RstB _ _ =>
    if c = .B then { x with sel := 0, txEnabled := false, ledLatch := false } else x
  | .wr9RstA _ _ =>
    if c = .A then { x with sel := 0, txEnabled := false, ledLatch := false } else x
  | .wr9RstAll _ _ | .esccReset => { x with sel := 0, txEnabled := false, ledLatch := false }
  | .skSetLeds d => if d = c then { x with ledLatch := true } else x
  | .skLedMask d _ => if d = c then { x with ledLatch := false } else x
  | _ => x

/-- The keyboard's awaited argument after an instruction (R399; 70 R394). -/
def Instr.kbdArgAfter (i : Instr) (a : Option KbdArg) : Option KbdArg :=
  match i with
  | .kbdSetLeds => some .setLeds
  | .kbdScancode => some .scancode
  | .kbdSetRate => some .setRate
  | .kbdArgScancode _ | .kbdArgSetLeds _ | .kbdArgSetRate _ | .kbdReset => none
  | _ => a

/-- The mouse's awaited argument after an instruction (R399; 70 R395). -/
def Instr.auxArgAfter (i : Instr) (a : Option AuxArg) : Option AuxArg :=
  match i with
  | .auxSetRes => some .setRes
  | .auxSetSample => some .setSample
  | .auxArgSetRes _ | .auxArgSetSample _ | .mouseReset => none
  | _ => a

/-- The mouse's wrap mode after an instruction (R399; 70 R395). -/
def Instr.wrapAfter (i : Instr) (w : Bool) : Bool :=
  match i with
  | .auxSetWrap => true
  | .auxWrapExit | .auxResetWrap | .mouseReset => false
  | _ => w

/-- The decode state of the block after an instruction. -/
def Instr.protocolAfter (i : Instr) (p : Protocol) : Protocol :=
  { p with
    chA := i.phaseAfter .A p.chA
    chB := i.phaseAfter .B p.chB
    kbdArg := i.kbdArgAfter p.kbdArg
    auxArg := i.auxArgAfter p.auxArg
    wrap := i.wrapAfter p.wrap }

end Sys2Proof
end

