-- ==== Sys2Proof/Certificates/Slice0/Obligations.lean ====
section
/-! DEFINITION. The statements for the provers. Each is about every state, also about states no run reaches,
but where it takes an invariant of `State.Sound` as its premise; `StepKeepsSound` and `ResetIsSound` say that
runs stay inside it. The shapes (`EsccEffect`, `KbdReplies`, …) are those of Sys2Proof/Safety.lean: each says
what changes and that nothing else does. -/

open Sys2Proof Sys2Proof.Machine

/-! ## Decode and encode (spec/20_memory.md, 30_encoding.md) -/

/-- A well-formed instruction whose row applies is read back from its encoding, whatever its operands and the
rest of the protocol state (30 R110 to R125, R129; 20 R81). -/
def Obligations.DecodeEncode : Prop :=
  ∀ (p : Protocol) (i : Instr), i.wf = true → i.when p = true →
    decode p (encode p.itShift i) = .instr i

/-- What the decoder reads is well-formed, its row applies, and it encodes the operation it was read from (up
to the aliases of one ESCC port, 20 R92): no operation has two meanings and none is read as a neighbour. -/
def Obligations.EncodeDecode : Prop :=
  ∀ (p : Protocol) (o : Op) (i : Instr), decode p o = .instr i →
    i.wf = true ∧ i.when p = true ∧ encode p.itShift i = o.canonical p.itShift

/-- Every byte written to, and every read of, every port in every protocol state is an instruction, and it
completes in every state (30 R126; 60 R340). -/
def Obligations.EveryByteHasAnEffect : Prop :=
  ∀ (p : Protocol) (port : Port) (v : Byte),
    ∀ o ∈ [writeOp p.itShift port v, readOp p.itShift port],
      ∃ i, decode p o = .instr i ∧ ∀ s : State, ∃ t, exec i s = .next t

/-- The three refusals are exactly the three breaches of 60 R341. Which one is named where an access breaks
two of them is the model's choice (log 6: window, size, channel, value), as are the channel numbers (log 7);
an access outside the window of 20 R92 is none. -/
def Obligations.RefusalsAreTheBreaches : Prop :=
  ∀ (p : Protocol) (o : Op),
    (decode p o = .refused .accessSize ↔
      match o with
      | .esccWrite offset size _ | .esccRead offset size => offset < 4 * 2 ^ p.itShift ∧ size ≠ 1
      | _ => False) ∧
    (decode p o = .refused .channelIndex ↔
      match o with
      | .receive n _ | .receiveBreak n | .keyEvent n _ _ | .mouseEvent n _ _ _ _ => 2 ≤ n
      | _ => False) ∧
    (decode p o = .refused .valueRange ↔
      match o with
      | .esccWrite offset size value => offset < 4 * 2 ^ p.itShift ∧ size = 1 ∧ 256 ≤ value
      | .receive n value => n < 2 ∧ 256 ≤ value
      | .kbdWrite value | .mouseWrite value | .kbdEmit value => 256 ≤ value
      | _ => False)

/-- The port map of the ESCC window, aliases included (20 R80, R81, R92; decision D16). -/
def Obligations.AddressMap : Prop :=
  ∀ k d : Nat, d < 2 ^ k →
    decodeOffset k (0 * 2 ^ k + d) = some (.ctrl .B) ∧
    decodeOffset k (1 * 2 ^ k + d) = some (.data .B) ∧
    decodeOffset k (2 * 2 ^ k + d) = some (.ctrl .A) ∧
    decodeOffset k (3 * 2 ^ k + d) = some (.data .A) ∧
    decodeOffset k (4 * 2 ^ k + d) = none

/-- Bytes written out from the encoding tables of 30_encoding.md, one or two per format (codes of decisions D5, D6,
D25, D32). -/
def Obligations.SampleWords : Prop :=
  let idle : ChanPhase := { sel := 0, role := .serial, txEnabled := false, ledLatch := false }
  let p : Protocol :=
    { chA := idle, chB := idle, kbdArg := none, auxArg := none, wrap := false, itShift := 0 }
  -- R111: 00 101 100, clear tx interrupt with pointer 4; 11 001 111, point high with pointer 7
  decode p (.esccWrite 2 1 0b00101100) = .instr (.cmdClrTxint .A 0 4) ∧
  decode p (.esccWrite 0 1 0b11001111) = .instr (.cmdHi .B 3 7) ∧
  -- R113: 01 000101 with `sel = 9`
  decode { p with chA := { idle with sel := 9 } } (.esccWrite 2 1 0b01000101) = .instr (.wr9RstB .A 5) ∧
  -- R112: the whole byte with `sel = 13`; a read there is RR13
  decode { p with chB := { idle with sel := 13 } } (.esccWrite 0 1 0xA5) = .instr (.wr13Brghi .B 0xA5) ∧
  decode { p with chB := { idle with sel := 13 } } (.esccRead 0 1) = .instr (.rr13 .B) ∧
  -- R114
  decode { p with chA := { idle with role := .keyboard, txEnabled := true } } (.esccWrite 3 1 0x0E) =
    .instr (.skSetLeds .A) ∧
  -- R124, R125, R117
  decode p (.kbdWrite 0xF2) = .instr .kbdGetId ∧
  decode p (.mouseWrite 0xEB) = .instr .auxPoll ∧
  decode { p with kbdArg := some .setLeds } (.kbdWrite 0xF2) = .instr (.kbdArgSetLeds 0xF2)

/-! ## The step (spec/00_scope.md R7, 20_memory.md R87) -/

/-- A step whose operation decodes to an instruction runs that instruction; the operation then leaves the
model's list of presented operations (log 1). -/
def Obligations.StepRunsDecodedInstruction : Prop :=
  ∀ (s : State) (o : Op) (rest : List Op) (i : Instr), s.inputs = o :: rest →
    decode s.protocol o = .instr i →
      step s =
        match exec i s with
        | .next t => .next { t with inputs := rest }
        | .fault r => .fault r
        | .refused r => .refused r

/-- A step that runs no instruction: nothing presented (log 2), an access outside the window (20 R92; log 8),
a breach of contract (60 R341). -/
def Obligations.StepWithoutInstruction : Prop :=
  ∀ s : State, (s.inputs = [] → step s = .next s) ∧
    ∀ (o : Op) (rest : List Op), s.inputs = o :: rest →
      (decode s.protocol o = .elsewhere → step s = .next { s with inputs := rest }) ∧
      ∀ why, decode s.protocol o = .refused why → step s = .refused (refusalOf why)

/-- Every instruction completes in every state; none changes a parameter (10 R28; 00 R4), and outputs are
only added (00 R7). -/
def Obligations.EveryInstructionCompletes : Prop :=
  ∀ (i : Instr) (s : State), ∃ t out, exec i s = .next t ∧ t.out = s.out ++ out ∧
    t.inputs = s.inputs ∧ t.params = s.params ∧
    ∀ c, (t.chan c).role = (s.chan c).role ∧ (t.chan c).disabled = (s.chan c).disabled

/-! ## The ESCC control port (spec/41_escc_control_port.md) -/

/-- The null, unassigned and point-high commands do nothing but latch the pointer, the last with bit 3 set
(R152, R153; decision D5). -/
def Obligations.PointerCommands : Prop :=
  ∀ (c : Chan) (ign : BitVec 2) (ptr : BitVec 3) (s : State),
    (∀ i ∈ [Instr.cmdNull c ign ptr, .cmdUnassigned10 c ign ptr, .cmdUnassigned18 c ign ptr,
        .cmdUnassigned20 c ign ptr, .cmdUnassigned30 c ign ptr],
      ∃ t, exec i s = .next t ∧ (t.chan c).sel.toNat = ptr.toNat ∧
        EsccEffect c s t { s.chan c with sel := (t.chan c).sel } s.rrOf []) ∧
    ∃ t, exec (.cmdHi c ign ptr) s = .next t ∧ (t.chan c).sel.toNat = ptr.toNat + 8 ∧
      EsccEffect c s t { s.chan c with sel := (t.chan c).sel } s.rrOf []

/-- `CMD_CLR_TXINT` (R154, 60 R349; decisions D11, D12 for the vector and pending registers): ClearTx, a pending
receive running SetRx again, then the pointer. -/
def Obligations.ClearTransmitInterrupt : Prop :=
  ∀ (c : Chan) (ign : BitVec 2) (ptr : BitVec 3) (s : State),
    ∃ t, exec (.cmdClrTxint c ign ptr) s = .next t ∧
      let ch := s.chan c
      let kept := s.chA.rr[3] &&& ~~~(txPendingBit c)
      EsccEffect c s t
        { ch with
          sel := ptr.zeroExtend 4
          txPending := false
          txIUS := false
          rxIUS := ch.rxIUS || ch.rxPending }
        (rrAfter s c ch.rr[0] ch.rr[1]
          (if ch.rxPending then rxVec c ch.statusHigh else noIntVec ch.statusHigh)
          (if ch.rxPending then kept ||| rxPendingBit c else kept))
        []

/-- `CMD_CLR_IUS` (R155, 60 R350; decision D13): the highest latch is cleared and only that one; where it was
receive's, a pending transmit runs SetTx; then the pointer. -/
def Obligations.ClearUnderService : Prop :=
  ∀ (c : Chan) (ign : BitVec 2) (ptr : BitVec 3) (s : State),
    ∃ t, exec (.cmdClrIus c ign ptr) s = .next t ∧
      let ch := s.chan c
      let chained := ch.rxIUS && ch.txPending
      EsccEffect c s t
        { ch with
          sel := ptr.zeroExtend 4
          rxIUS := false
          txIUS := ch.rxIUS && (ch.txIUS || ch.txPending) }
        (rrAfter s c ch.rr[0] ch.rr[1]
          (if chained then txVec c ch.statusHigh else (s.chan c.sib).rr[2])
          (if chained then s.chA.rr[3] ||| txPendingBit c else s.chA.rr[3]))
        []

/-- The writes that store a register and do nothing else (R158, R159, R162, R163, R166, R170; the registers'
numbers from general knowledge, decision D9). -/
def Obligations.StoreOnlyWrites : Prop :=
  ∀ (c : Chan) (v : Byte) (s : State),
    ∀ x ∈ [(Instr.wr2 c v, (2 : Fin 16)), (.wr3 c v, 3), (.wr6 c v, 6), (.wr7 c v, 7),
        (.wr10 c v, 10), (.wr14 c v, 14)],
      ∃ t, exec x.1 s = .next t ∧
        EsccEffect c s t { s.chan c with wr := (s.chan c).wr.set x.2 v, sel := 0 } s.rrOf []

/-- WR8, WR9 without a reset code, and WR11 are stored and do nothing else: nothing is transmitted by the first
(R164, decision D20), the second's byte, with bits 7:6 = 00, is stored whole (R165, decision D8), the third
selects no clock (R167; 10 R39). -/
def Obligations.OtherStores : Prop :=
  ∀ (c : Chan) (v : Byte) (low : BitVec 6) (s : State),
    ∀ x ∈ [(Instr.wr8 c v, (8 : Fin 16), v), (.wr9Store c low, 9, BitVec.ofNat 8 low.toNat),
        (.wr11 c v, 11, v)],
      ∃ t, exec x.1 s = .next t ∧
        EsccEffect c s t { s.chan c with wr := (s.chan c).wr.set x.2.1 x.2.2, sel := 0 } s.rrOf []

/-- WR1 and WR15 (R157, R171; 60 R343, the places of the bits decision D9): the byte is stored, no pending or
under-service flag changes, and the line follows at once: it is what the new enables make of the flags as they
stood. -/
def Obligations.InterruptEnableWrites : Prop :=
  ∀ (c : Chan) (v : Byte) (s : State),
    let ch := s.chan c
    (∃ t, exec (.wr1 c v) s = .next t ∧
      EsccEffect c s t { ch with wr := ch.wr.set 1 v, sel := 0 } s.rrOf [] ∧
      (t.irqLine = true ↔
        (v[1] = true ∧ ch.txPending = true) ∨
        ((v.toNat / 8 % 4 = 1 ∨ v.toNat / 8 % 4 = 2) ∧ ch.rxPending = true) ∨
        (ch.wr[15][7] = true ∧ ch.rr[0][7] = true) ∨ (s.chan c.sib).wants = true)) ∧
    ∃ t, exec (.wr15 c v) s = .next t ∧
      EsccEffect c s t { ch with wr := ch.wr.set 15 v, sel := 0 } s.rrOf [] ∧
      (t.irqLine = true ↔
        (ch.wr[1][1] = true ∧ ch.txPending = true) ∨
        ((ch.wr[1].toNat / 8 % 4 = 1 ∨ ch.wr[1].toNat / 8 % 4 = 2) ∧ ch.rxPending = true) ∨
        (v[7] = true ∧ ch.rr[0][7] = true) ∨ (s.chan c.sib).wants = true)

/-- WR4, WR5, WR12 and WR13 (R160, R161, R168, R169; 42 R195, decision D19): the byte is stored, WR12's and
WR13's also in the read register of the same number (10 R47), and on a serial channel the line parameters of
the new registers are announced once. -/
def Obligations.LineParameterWrites : Prop :=
  ∀ (c : Chan) (v : Byte) (s : State),
    ∀ x ∈ [(Instr.wr4 c v, (4 : Fin 16), false), (.wr5 c v, 5, false),
        (.wr12Brglo c v, 12, true), (.wr13Brghi c v, 13, true)],
      ∃ t, exec x.1 s = .next t ∧
        let wr := (s.chan c).wr.set x.2.1 v
        EsccEffect c s t { s.chan c with wr := wr, sel := 0 }
          (fun y n => if x.2.2 = true ∧ y = c ∧ n = x.2.1 then v else s.rrOf y n)
          (if (s.chan c).role = .serial then
            [.parametersChanged c (deriveLineParameters s.params.clockHz wr)] else [])

/-- Parity, stop bits and data bits as numbers of the fields (42 R191, R192, R193; the places and codes of the
fields decision D9). -/
def Obligations.LineFormat : Prop :=
  ∀ (clock : ℕ+) (wr : Vector Byte 16),
    let p := deriveLineParameters clock wr
    let stop := wr[4].toNat / 4 % 4
    let bits := wr[5].toNat / 32 % 4
    p.parity = (if wr[4].toNat % 2 = 0 then .none else if wr[4].toNat / 2 % 2 = 1 then .even else .odd) ∧
    p.stopBits = (if stop = 3 then 2 else 1) ∧
    p.dataBits = (if bits = 0 then 5 else if bits = 1 then 7 else if bits = 2 then 6 else 8)

/-- The baud rate (42 R194; 30 R120; decisions D19, D43): the clock over the time constant plus 2, WR12 its
low byte, then over the multiplier, both divisions truncating. -/
def Obligations.BaudRate : Prop :=
  ∀ (clock : ℕ+) (wr : Vector Byte 16),
    let tc := wr[12].toNat + 256 * wr[13].toNat
    let field := wr[4].toNat / 64
    (deriveLineParameters clock wr).baud =
      clock / (tc + 2) / (if field = 0 then 1 else if field = 1 then 16 else if field = 2 then 32 else 64)

/-- The reset codes (R165, R176; decisions D6, D7): the channels the code names are reset, whichever channel
was written, and nothing else changes: the byte is not stored, and a writer that is not reset keeps its
pointer. -/
def Obligations.ResetCodes : Prop :=
  ∀ (c : Chan) (low : BitVec 6) (s : State),
    (∃ t, exec (.wr9RstB c low) s = .next t ∧ ChannelReset .B s t ∧
      (c = .A → (t.chan c).sel = (s.chan c).sel)) ∧
    (∃ t, exec (.wr9RstA c low) s = .next t ∧ ChannelReset .A s t ∧
      (c = .B → (t.chan c).sel = (s.chan c).sel)) ∧
    ∃ t u, exec (.wr9RstAll c low) s = .next u ∧ ChannelReset .A s t ∧ ChannelReset .B t u

/-- What a control-port read of read register n answers (R173, R174): its byte; the pointer is cleared and
nothing else changes. -/
def Obligations.ReadRegisters : Prop :=
  ∀ (c : Chan) (s : State),
    ∀ x ∈ [(Instr.rr0 c, (0 : Fin 16)), (.rr1 c, 1), (.rr2 c, 2), (.rr3 c, 3), (.rr4 c, 4),
        (.rr5 c, 5), (.rr6 c, 6), (.rr7 c, 7), (.rr8 c, 8), (.rr9 c, 9), (.rr10 c, 10), (.rr11 c, 11),
        (.rr12 c, 12), (.rr13 c, 13), (.rr14 c, 14), (.rr15 c, 15)],
      ∃ t, exec x.1 s = .next t ∧
        EsccEffect c s t { s.chan c with sel := 0 } s.rrOf [.returned (.ctrl c) (s.rrOf c x.2)]

/-- A one-byte read of a control port, as a step (R173): it answers `rr[sel]`, clears `sel` and changes
nothing else of the block. -/
def Obligations.ControlRead : Prop :=
  ∀ (s : State) (c : Chan) (rest : List Op), s.inputs = readOp s.params.itShift (.ctrl c) :: rest →
    ∃ t, step s = .next t ∧
      EsccEffect c { s with inputs := rest } t { s.chan c with sel := 0 } s.rrOf
        [.returned (.ctrl c) (s.rrOf c (s.chan c).sel.toFin)]

/-- A control-port write while a pointer is latched (R172, R175): whatever its value, unless it is a reset
code at 9, it stores the byte in the register the pointer names and returns to Idle; no command runs, and of
the channel nothing else changes but the mirror of WR12 or WR13 (10 R47). -/
def Obligations.LatchedWriteStoresOnce : Prop :=
  ∀ (s : State) (c : Chan) (v : Byte), (s.chan c).sel ≠ 0 →
    ¬((s.chan c).sel = 9 ∧ v &&& 0xC0 ≠ 0) →
      ∃ i t, decode s.protocol (writeOp s.params.itShift (.ctrl c) v) = .instr i ∧ exec i s = .next t ∧
        t.chan c.sib = s.chan c.sib ∧
        t.chan c =
          { s.chan c with
            wr := (s.chan c).wr.set (s.chan c).sel.toFin v
            sel := 0
            rr := (t.chan c).rr } ∧
        ∀ n : Fin 16, n ≠ 12 → n ≠ 13 → t.rrOf c n = s.rrOf c n

/-- The sequencing state moves as the table of 70 R399 says, by every instruction, and by no other
(`Instr.protocolAfter` holds the table's rows and the resets of 70 R391, R394, R395); `detect_state` moves by
sample-rate arguments and by MouseReset alone. -/
def Obligations.SequencingState : Prop :=
  ∀ (i : Instr) (s t : State), exec i s = .next t →
    t.protocol = i.protocolAfter s.protocol ∧
    t.mouse.detectState =
      match i with
      | .auxArgSetSample v => (detectStep s.mouse.detectState s.mouse.mtype v).1
      | .mouseReset => 0
      | _ => s.mouse.detectState

/-! ## The ESCC data port (spec/43_escc_data_port.md) -/

/-- A data-port write on a serial channel (R200, decision D14; 60 R347): the byte goes to the transport where
transmit is enabled; enabled or not, the transmit interrupt is raised. -/
def Obligations.DataWriteSerial : Prop :=
  ∀ (c : Chan) (v : Byte) (s : State),
    ∃ t, exec (.dwSerial c v) s = .next t ∧
      EsccEffect c s t ((s.chan c).transmitted v (s.chan c).ledLatch) (rrTransmitted s c)
        (if (s.chan c).wr[5][3] = true then [.transportWrite c v] else [])

/-- The data-port writes that answer nothing: on a mouse channel, on a keyboard channel with transmit
disabled, an ignored command (44 R225), the set-LEDs command and its mask (44 R222, R226). All that happens is
the transmit bookkeeping (R200, decision D14) and, for the last two, the LED latch. -/
def Obligations.DataWriteSilent : Prop :=
  ∀ (c : Chan) (v : Byte) (s : State),
    let latch := (s.chan c).ledLatch
    ∀ x ∈ [(Instr.dwMouse c v, v, latch), (.dwKbdTxoff c v, v, latch), (.skOther c v, v, latch),
        (.skSetLeds c, 0x0E, true), (.skLedMask c v, v, false)],
      ∃ t, exec x.1 s = .next t ∧
        EsccEffect c s t ((s.chan c).transmitted x.2.1 x.2.2) (rrTransmitted s c) []

/-- The Sun keyboard's replies (44 R221, R223, R224, with the bookkeeping of 43 R200, decision D14): the queue
holds exactly the reply, receive is pending and under service and shown in the vector, and the transmit
interrupt waits behind it. -/
def Obligations.SunReplies : Prop :=
  ∀ (c : Chan) (s : State),
    ∀ x ∈ [(Instr.skReset c, (0x01 : Byte), [(0xFF : Byte), 0x04, 0x7F]),
        (.skLayout07 c, 0x07, [0xFE, Config.layoutId]), (.skLayout0F c, 0x0F, [0xFE, Config.layoutId])],
      ∃ t, exec x.1 s = .next t ∧ (t.chan c).q.contents = x.2.2 ∧
        let ch := s.chan c
        EsccEffect c s t ({ ch with tx := x.2.1, txPending := true }.received (t.chan c).q)
          (rrAfter s c (ch.rr[0] ||| 0x05) (ch.rr[1] ||| 0x01) (rxVec c ch.statusHigh)
            (s.chA.rr[3] ||| rxPendingBit c))
          []

/-- A data-port read (R201, decision D15; 60 R348; 40 R141). On a serial channel the pending input byte is
answered and kept, rx-available cleared, receive retired, a pending transmit promoted. On a keyboard or mouse
channel an empty queue answers 0; else its head is taken, and where bytes remain receive is pending and under
service again. -/
def Obligations.DataRead : Prop :=
  ∀ (c : Chan) (s : State), ∃ t, exec (.dr c) s = .next t ∧
    if (s.chan c).role = .serial then
      EsccEffect c s t ((s.chan c).drained (s.chan c).q) (rrDrained s c)
        [.returned (.data c) (s.chan c).rx]
    else
      match (s.chan c).q.contents with
      | [] =>
        EsccEffect c s t ((s.chan c).drained (s.chan c).q) (rrDrained s c) [.returned (.data c) 0x00]
      | [b] =>
        (t.chan c).q.contents = [] ∧
        EsccEffect c s t ((s.chan c).drained (t.chan c).q) (rrDrained s c) [.returned (.data c) b]
      | b :: b' :: bs =>
        (t.chan c).q.contents = b' :: bs ∧
        EsccEffect c s t ((s.chan c).reread (t.chan c).q) (rrReread s c) [.returned (.data c) b]

/-- The transport's callbacks on a serial channel. A byte (R203, decision D17; 60 R346) replaces the pending
input byte, read or unread, and receive is pending and under service. A break (R205, decision D18) sets the
break-status bit and nothing else. -/
def Obligations.TransportCallbacks : Prop :=
  ∀ (c : Chan) (b : Byte) (s : State), (s.chan c).role = .serial →
    (∃ t, exec (.receive c b) s = .next t ∧
      EsccEffect c s t { (s.chan c).received (s.chan c).q with rx := b } (rrReceived s c) []) ∧
    ∃ t, exec (.receiveBreak c) s = .next t ∧
      EsccEffect c s t (s.chan c)
        (rrAfter s c ((s.chan c).rr[0] ||| 0x80) (s.chan c).rr[1] (s.chan c.sib).rr[2] s.chA.rr[3]) []

/-- An event on a channel of another role changes nothing (43 R203, R205; 44 R227, R231; decision D48). -/
def Obligations.WrongRoleIgnored : Prop :=
  ∀ (c : Chan) (b : Byte) (q : Qcode) (down : Bool) (x y z : Int) (s : State),
    ((s.chan c).role ≠ .serial →
      exec (.receive c b) s = .next s ∧ exec (.receiveBreak c) s = .next s) ∧
    ((s.chan c).role ≠ .keyboard → exec (.keyEvent c q down) s = .next s) ∧
    ((s.chan c).role ≠ .mouse → exec (.mouseEvent c x y z b) s = .next s)

/-- The transport's gate (R204, the bit's place from general knowledge, decision D9): false exactly when
rx-available is set; so false after a byte is received, and true after it is read. -/
def Obligations.ReceiveGate : Prop :=
  (∀ ch : Channel, ch.canReceive = false ↔ ch.rr[0].toNat % 2 = 1) ∧
  ∀ (c : Chan) (b : Byte) (s : State), (s.chan c).role = .serial →
    ∃ t u, exec (.receive c b) s = .next t ∧ (t.chan c).canReceive = false ∧
      exec (.dr c) t = .next u ∧ (u.chan c).canReceive = true

/-! ## Sun keyboard and mouse events (spec/44_sun_keyboard_mouse.md) -/

/-- A key event on a keyboard channel (R227, R228, R229; decision D21): a lock key's repeated edge is dropped,
a passing one moves the key's phase; a mapped key queues its keycode with the release flag in bit 7. -/
def Obligations.KeyEventQueues : Prop :=
  ∀ (c : Chan) (q : Qcode) (down : Bool) (s : State), (s.chan c).role = .keyboard →
    (s.chan c).q.wf = true →
      ∃ t, exec (.keyEvent c q down) s = .next t ∧
        let ch := s.chan c
        let phase : KeyPhase := if down then .pressed else .released
        let moved : Channel :=
          match q with
          | .capsLock => { ch with capsPhase := phase }
          | .numLock => { ch with numPhase := phase }
          | .other _ => ch
        if (q = .capsLock ∧ ch.capsPhase = phase) ∨ (q = .numLock ∧ ch.numPhase = phase) then t = s
        else
          match Config.sunKeycode q with
          | none => t = s.setChan c moved
          | some k =>
            ∃ b : Byte, b.toNat = (if down then k.toNat else k.toNat + 128) ∧ EsccQueues c s t moved [b]

/-- A mouse event on a mouse channel (R231, R233; decision D22): the five bytes of one packet are queued as far
as there is room; the first is 0x87 less 4, 2, 1 for left, middle, right; `dz` has no effect. -/
def Obligations.MouseEventQueues : Prop :=
  ∀ (c : Chan) (dx dy dz : Int) (buttons : Byte) (s : State), (s.chan c).role = .mouse →
    (s.chan c).q.wf = true →
      ∃ t b0 motion, exec (.mouseEvent c dx dy dz buttons) s = .next t ∧
        EsccQueues c s t (s.chan c) (sunMousePacket dx dy buttons) ∧
        sunMousePacket dx dy buttons = b0 :: motion ∧ motion.length = 4 ∧
        b0.toNat + (if buttons[0] then 4 else 0) + (if buttons[2] then 2 else 0) +
          (if buttons[1] then 1 else 0) = 0x87

/-- The motion bytes of a Sun mouse packet (R232): `dx` and `-dy` clamped, in two's complement; 0x80 is never
produced, and the last two bytes are 0. -/
def Obligations.SunPacketMotion : Prop :=
  ∀ (dx dy : Int) (buttons : Byte), ∃ b0 b1 b2 : Byte,
    sunMousePacket dx dy buttons = [b0, b1, b2, 0x00, 0x00] ∧
    b1.toInt = max (-127) (min 127 dx) ∧ b2.toInt = max (-127) (min 127 (-dy)) ∧
    b1 ≠ 0x80 ∧ b2 ≠ 0x80

/-! ## The interrupt arbiter (spec/60_exceptions.md) -/

/-- A channel's interrupt request (R343; the places of the bits decision D9), on the fields of its registers as
numbers. -/
def Obligations.ChannelWants : Prop :=
  ∀ ch : Channel,
    ch.wants = true ↔
      (ch.wr[1].toNat / 2 % 2 = 1 ∧ ch.txPending = true) ∨
      ((ch.wr[1].toNat / 8 % 4 = 1 ∨ ch.wr[1].toNat / 8 % 4 = 2) ∧ ch.rxPending = true) ∨
      (128 ≤ ch.wr[15].toNat ∧ 128 ≤ ch.rr[0].toNat)

/-- The vector constants (R345, decision D10): the code of class and channel, 011 for `NOINT`, in bits 3:1, or
with status-high in bits 6:4 with its bits reversed. -/
def Obligations.VectorConstants : Prop :=
  ∀ hi : Bool,
    let place : BitVec 3 → Byte := fun code =>
      if hi then
        0b0#1 ++ BitVec.ofBool code[0] ++ BitVec.ofBool code[1] ++ BitVec.ofBool code[2] ++ 0b0000#4
      else 0b0000#4 ++ code ++ 0b0#1
    noIntVec hi = place 0b011 ∧ rxVec .A hi = place 0b110 ∧ rxVec .B hi = place 0b010 ∧
    txVec .A hi = place 0b100 ∧ txVec .B hi = place 0b000

/-- What an operation cannot touch. The ESCC and the two PS/2 devices share nothing (20 R83; 70 R390). An
operation on one channel touches its sibling nowhere but in RR2 and, where the sibling is A, RR3 (10 R20, R45,
R46); it never touches B's RR3. -/
def Obligations.Isolation : Prop :=
  ∀ (i : Instr) (s t : State), exec i s = .next t →
    (i.device ≠ .escc → t.chA = s.chA ∧ t.chB = s.chB) ∧
    (i.device ≠ .kbd → t.kbd = s.kbd) ∧
    (i.device ≠ .mouse → t.mouse = s.mouse) ∧
    ∀ c, i.channel = some c →
      t.chan c.sib = { s.chan c.sib with rr := (t.chan c.sib).rr } ∧
      (∀ n : Fin 16, n ≠ 2 → n ≠ 3 → t.rrOf c.sib n = s.rrOf c.sib n) ∧
      t.rrOf .B 3 = s.rrOf .B 3

/-! ## The byte queue (spec/40_bytequeue.md) -/

/-- Pushing any bytes on any of the queues (R140, R143, R144 (a), (c)): what finds room is queued in order
behind what was there, the rest is dropped, the count never exceeds the capacity, and there is one
data-available effect for each accepted byte. -/
def Obligations.PushesFillQueues : Prop :=
  ∀ (bs : List Byte) (s : State),
    (s.kbd.Sound → KbdReplies s (pushKbdAll bs s) s.kbd bs) ∧
    (s.mouse.Sound → MouseReplies s (pushMouseAll bs s) s.mouse bs) ∧
    ∀ c, (s.chan c).q.wf = true → EsccQueues c s (pushChanAll c bs s) (s.chan c) bs

/-! ## The PS/2 keyboard (spec/45_ps2_keyboard.md) -/

/-- The commands that are acknowledged and do nothing else or enable scanning (R251, R255, R262), and those that
await an argument (R256, R257, R258), which are latched and acknowledged. -/
def Obligations.KeyboardCommands : Prop :=
  ∀ (v : Byte) (s : State), s.kbd.Sound →
    ∀ x ∈ [(Instr.kbd00, s.kbd), (.kbdOther v, s.kbd), (.kbdEnable, { s.kbd with scanEnabled := true }),
        (.kbdScancode, { s.kbd with writeCmd := some .scancode }),
        (.kbdSetLeds, { s.kbd with writeCmd := some .setLeds }),
        (.kbdSetRate, { s.kbd with writeCmd := some .setRate })],
      ∃ t, exec x.1 s = .next t ∧ KbdReplies s t x.2 [0xFA]

/-- The keyboard's own full resets (R259, R260, R261, R266; decisions D27, D28; 60 R357): the queue holds the
reply alone, set 2, LEDs 0, scanning as the command says; the line drops once and rises with each byte. -/
def Obligations.KeyboardFullResets : Prop :=
  ∀ s : State,
    ∀ x ∈ [(Instr.kbdResetDisable, false, [(0xFA : Byte)]), (.kbdResetEnable, true, [0xFA]),
        (.kbdResetCmd, true, [0xFA, 0xAA])],
      ∃ t, exec x.1 s = .next t ∧
        KbdEffect s t { s.kbd with scanEnabled := x.2.1, scancodeSet := .set2, ledstate := 0x00 } x.2.2
          (.kbdIrq false :: List.replicate x.2.2.length (.kbdIrq true))

/-- The argument of `SCANCODE` (R263, decision D29): 0 reports the active set, 1 to 3 select one, any other is
acknowledged and changes nothing; no argument is awaited afterward. -/
def Obligations.KeyboardScancodeArgument : Prop :=
  ∀ (v : Byte) (s : State), s.kbd.Sound →
    ∃ t, exec (.kbdArgScancode v) s = .next t ∧
      if v = 0 then
        KbdReplies s t { s.kbd with writeCmd := none }
          [match s.kbd.scancodeSet with | .set1 => 0x43 | .set2 => 0x41 | .set3 => 0x3F]
      else
        KbdReplies s t
          { s.kbd with
            writeCmd := none
            scancodeSet :=
              if v = 1 then .set1 else if v = 2 then .set2 else if v = 3 then .set3
              else s.kbd.scancodeSet }
          [0xFA]

/-- The arguments of `SET_LEDS` and `SET_RATE` (R264, R265). -/
def Obligations.KeyboardStoredArguments : Prop :=
  ∀ (v : Byte) (s : State), s.kbd.Sound →
    ∀ x ∈ [(Instr.kbdArgSetLeds v, v), (.kbdArgSetRate v, s.kbd.ledstate)],
      ∃ t, exec x.1 s = .next t ∧
        KbdReplies s t { s.kbd with writeCmd := none, ledstate := x.2 } [0xFA]

/-- A read of the keyboard (R269): the line is lowered, the head of the queue answered, 0 where there is none,
and the line raised again where bytes remain. In the list of outputs the place of the returned byte behind the
`irq` events is the model's choice (log 3, DESIGN CHOICE). -/
def Obligations.KeyboardRead : Prop :=
  ∀ s : State, ∃ t, exec .kbdRead s = .next t ∧
    match s.kbd.q.contents with
    | [] => KbdEffect s t s.kbd [] [.kbdIrq false, .returned .kbd 0x00]
    | [b] => KbdEffect s t s.kbd [] [.kbdIrq false, .returned .kbd b]
    | b :: b' :: bs =>
      KbdEffect s t s.kbd (b' :: bs) [.kbdIrq false, .kbdIrq true, .returned .kbd b]

/-- Emission of a keycode (R267, R268; decision D30): through the table of set 2 or 3, a release behind the
break prefix; unmodified in translate mode, in set 1 and from 0xE0 on. Scanning disabled gates nothing. -/
def Obligations.KeyboardEmission : Prop :=
  ∀ (k : Byte) (s : State), s.kbd.Sound →
    ∃ t, exec (.kbdEmit k) s = .next t ∧
      KbdReplies s t s.kbd
        (if s.kbd.translate = false ∧ s.kbd.scancodeSet ≠ .set1 ∧ k.toNat < 0xE0 then
          (if 128 ≤ k.toNat then [0xF0] else []) ++
            [if s.kbd.scancodeSet = .set2 then Config.rawSet2 (BitVec.ofNat 7 (k.toNat % 128))
              else Config.rawSet3 (BitVec.ofNat 7 (k.toNat % 128))]
        else [k])

/-- A key of the PS/2 keyboard presented by the host (R272, decision D23; R267, R268): the block runs from there
to a state that has served its `KbdEmit`s, one for each byte of `PS2_KEYCODES`, and nothing behind them, and
queues what the bytes are emitted as, in order, as far as there is room. The bytes are an open parameter
(log 5), and the operations are served from the model's list (log 1). -/
def Obligations.KeyboardKeyEvent : Prop :=
  ∀ (q : Qcode) (down : Bool) (rest : List Op) (s : State), s.kbd.Sound →
    s.inputs = ps2KeyOps q down ++ rest →
      ∃ t, Runs s t ∧
        KbdReplies { s with inputs := rest } t s.kbd
          ((Config.ps2Keycodes q down).flatMap (emitBytes s.kbd.translate s.kbd.scancodeSet))

/-- The resend byte and the echo (R252, R254; their values from general knowledge, decision D25), `GET_ID` (R253,
decision D26), whose last byte tells translate mode; and the platform's operations: setting translate mode
(R271, decision D31) and the device reset (70 R394, decision D39), which queues nothing and drops the line. -/
def Obligations.KeyboardIdentityAndPlatform : Prop :=
  ∀ (on : Bool) (s : State),
    (s.kbd.Sound →
      ∀ x ∈ [(Instr.kbd05, [(0xFE : Byte)]), (.kbdEcho, [0xEE]),
          (.kbdGetId, [0xFA, 0xAB, if s.kbd.translate then 0x41 else 0x83])],
        ∃ t, exec x.1 s = .next t ∧ KbdReplies s t s.kbd x.2) ∧
    exec (.kbdSetTranslate on) s = .next { s with kbd := { s.kbd with translate := on } } ∧
    ∃ t, exec .kbdReset s = .next t ∧ KbdEffect s t Keyboard.reset [] [.kbdIrq false]

/-! ## The PS/2 mouse (spec/46_ps2_mouse.md) -/

/-- The commands that set or clear a status bit and are acknowledged (R292, R293, R296, R300, R303, R304; 10 R54,
the places of the bits decision D32). -/
def Obligations.MouseModeCommands : Prop :=
  ∀ s : State, s.mouse.Sound →
    let st := s.mouse.status
    ∀ x ∈ [(Instr.auxSetScale11, st &&& 0xEF), (.auxSetScale21, st ||| 0x10),
        (.auxSetStream, st &&& 0xBF), (.auxSetRemote, st ||| 0x40), (.auxEnableDev, st ||| 0x20),
        (.auxDisableDev, st &&& 0xDF)],
      ∃ t, exec x.1 s = .next t ∧ MouseReplies s t { s.mouse with status := x.2 } [0xFA]

/-- The effects of the four wrap-mode rows (R291, R298, R299; decision D33). -/
def Obligations.MouseWrapCommands : Prop :=
  ∀ (v : Byte) (s : State), s.mouse.Sound →
    ∀ x ∈ [(Instr.auxSetWrap, true, (0xFA : Byte)), (.auxResetWrap, false, 0xFA),
        (.auxWrapExit, false, 0xFA), (.auxWrapEcho v, s.mouse.wrap, v)],
      ∃ t, exec x.1 s = .next t ∧ MouseReplies s t { s.mouse with wrap := x.2.1 } [x.2.2]

/-- The commands that await an argument (R294, R302) and the two arguments: the resolution (R308), and the
sample rate (R309) with the table of the detection sequence (R310, decision D38). -/
def Obligations.MouseArguments : Prop :=
  ∀ (v : Byte) (s : State), s.mouse.Sound →
    let n := s.mouse.detectState
    ∀ x ∈ [(Instr.auxSetRes, { s.mouse with writeCmd := some .setRes }),
        (.auxSetSample, { s.mouse with writeCmd := some .setSample }),
        (.auxArgSetRes v, { s.mouse with writeCmd := none, resolution := v }),
        (.auxArgSetSample v,
          { s.mouse with
            writeCmd := none
            sampleRate := v
            detectState :=
              if n = 0 ∧ v = 200 then 1 else if n = 1 ∧ v = 100 then 2
              else if n = 1 ∧ v = 200 then 3 else 0
            mtype :=
              if n = 2 ∧ v = 80 then .imps2 else if n = 3 ∧ v = 80 then .imex else s.mouse.mtype })],
      ∃ t, exec x.1 s = .next t ∧ MouseReplies s t x.2 [0xFA]

/-- The reports (R295, R301; decision D32), and set-defaults and reset (R305, R306; decisions D34, D46), which
clear neither the queue, the accumulators, the buttons, wrap mode nor the detection state; only the reset
clears the variant. -/
def Obligations.MouseReportsAndDefaults : Prop :=
  ∀ s : State, s.mouse.Sound →
    let plain : Mouse := { s.mouse with sampleRate := 100, resolution := 2, status := 0x00 }
    ∀ x ∈ [(Instr.auxGetScale, s.mouse,
          [(0xFA : Byte), s.mouse.status, s.mouse.resolution, s.mouse.sampleRate]),
        (.auxGetType, s.mouse,
          [0xFA, match s.mouse.mtype with | .plain => 0x00 | .imps2 => 0x03 | .imex => 0x04]),
        (.auxSetDefault, plain, [0xFA]),
        (.auxReset, { plain with mtype := .plain }, [0xFA, 0xAA, 0x00])],
      ∃ t, exec x.1 s = .next t ∧ MouseReplies s t x.2.1 x.2.2

/-- A poll (R297, R313): the acknowledge and one packet, each byte as far as there is room; what the packet
carries is taken off the accumulators even where a byte was dropped. An unknown command changes nothing
(R307, decision D33). -/
def Obligations.MousePollAndUnknown : Prop :=
  ∀ (v : Byte) (s : State), s.mouse.Sound →
    (∃ t, exec .auxPoll s = .next t ∧ MouseReplies s t s.mouse.afterPacket (0xFA :: s.mouse.packet)) ∧
    exec (.auxOther v) s = .next s

/-- The bits of a packet (30 R119, R121, R122; 46 R313; decisions D36, D37). -/
def Obligations.PacketFormat : Prop :=
  ∀ m : Mouse, ∃ (b0 b1 b2 : Byte) (more : List Byte), m.packet = b0 :: b1 :: b2 :: more ∧
    b0.toNat = 8 + (if m.dx < 0 then 16 else 0) + (if 0 < m.dy then 32 else 0) + m.buttons.toNat % 8 ∧
    b1.toInt = max (-127) (min 127 m.dx) ∧ b2.toInt = max (-127) (min 127 (-m.dy)) ∧
    match m.mtype with
    | .plain => more = []
    | .imps2 => ∃ b3 : Byte, more = [b3] ∧ b3.toInt = max (-127) (min 127 m.dz)
    | .imex =>
      ∃ b3 : Byte, more = [b3] ∧ (b3.extractLsb' 0 4).toInt = max (-7) (min 7 m.dz) ∧
        b3.toNat / 16 = m.buttons.toNat / 8 % 4

/-- A packet takes what it carries off each accumulator (46 R313; decision D37): each moves toward zero by at
most 127, the wheel of the IMEX variant by at most 7, and keeps its sign. -/
def Obligations.PacketConsumesMotion : Prop :=
  ∀ m : Mouse,
    let wheel := if m.mtype = .imex then 7 else 127
    m.afterPacket.dx = m.dx.sign * (m.dx.natAbs - 127 : Nat) ∧
    m.afterPacket.dy = m.dy.sign * (m.dy.natAbs - 127 : Nat) ∧
    m.afterPacket.dz = m.dz.sign * (m.dz.natAbs - wheel : Nat)

/-- Host events that send nothing (46 R311, decision D35): ignored whole while the device is not enabled;
where nothing is left to report, and in remote mode, only accumulated. -/
def Obligations.MouseEventQuiet : Prop :=
  ∀ (ex ey ez : Int) (b : Byte) (s : State),
    let m : Mouse :=
      { s.mouse with dx := s.mouse.dx + ex, dy := s.mouse.dy + ey, dz := s.mouse.dz + ez, buttons := b }
    (s.mouse.status[5] = false → exec (.ps2MouseEvent ex ey ez b) s = .next s) ∧
    (s.mouse.status[5] = true →
      s.mouse.status[6] = true ∨ (m.dx = 0 ∧ m.dy = 0 ∧ m.dz = 0 ∧ s.mouse.buttons = b) →
        exec (.ps2MouseEvent ex ey ez b) s = .next { s with mouse := m })

/-- A host event in stream mode that leaves something to report (46 R311, R312, R313; decision D35): `k` whole
packets are queued, never a torn one; the sync goes on while something is left and a whole packet fits, and
stops at the first packet after which nothing is left. -/
def Obligations.MouseEventStream : Prop :=
  ∀ (ex ey ez : Int) (b : Byte) (s : State), s.mouse.Sound → s.mouse.status[5] = true →
    s.mouse.status[6] = false →
      let m : Mouse :=
        { s.mouse with dx := s.mouse.dx + ex, dy := s.mouse.dy + ey, dz := s.mouse.dz + ez, buttons := b }
      let plen := if m.mtype = .plain then 3 else 4
      ¬(m.dx = 0 ∧ m.dy = 0 ∧ m.dz = 0 ∧ s.mouse.buttons = b) →
        ∃ t k, exec (.ps2MouseEvent ex ey ez b) s = .next t ∧
          MouseEffect s t (m.afterPackets k) (s.mouse.q.contents ++ m.packets k)
            (List.replicate (k * plen) (.mouseIrq true)) ∧
          s.mouse.q.count + k * plen ≤ Config.ps2Qcap ∧
          (∀ j, 0 < j → j < k → (m.afterPackets j).still = false) ∧
          ((0 < k ∧ (m.afterPackets k).still = true) ∨
            Config.ps2Qcap < s.mouse.q.count + (k + 1) * plen)

/-- A read of the mouse (R314), as one of the keyboard: the line is lowered, the head of the queue answered, 0
where there is none, and the line raised again where bytes remain; it starts no sync. In the list of outputs the
place of the returned byte behind the `irq` events is the model's choice (log 3, DESIGN CHOICE). -/
def Obligations.MouseRead : Prop :=
  ∀ s : State, ∃ t, exec .mouseRead s = .next t ∧
    match s.mouse.q.contents with
    | [] => MouseEffect s t s.mouse [] [.mouseIrq false, .returned .mouse 0x00]
    | [b] => MouseEffect s t s.mouse [] [.mouseIrq false, .returned .mouse b]
    | b :: b' :: bs =>
      MouseEffect s t s.mouse (b' :: bs) [.mouseIrq false, .mouseIrq true, .returned .mouse b]

/-! ## Reset (spec/70_reset_and_hazards.md) -/

/-- The state of a channel after `ResetChannel`, item by item (R393; several of its numbers from general knowledge,
decision D9), whatever it was before; its parameters are kept (10 R28). -/
def Obligations.ResetTable : Prop :=
  ∀ (x : Chan) (s : State),
    let ch := (resetChannel x s).chan x
    ch.sel = 0 ∧
    ch.wr.toList = [0, 0, 0, 0, 0x04, 0, 0, 0, 0, 0xC0, 0, 0x08, 0, 0, 0x30, 0xF8] ∧
    ch.rr.toList =
      [if (s.chan x).disabled then 0x7C else 0x44, 0x07, 0, 0, 0, 0, 0, 0, 0, 0, 0, 0, 0, 0, 0, 0] ∧
    ch.rxPending = false ∧ ch.txPending = false ∧ ch.rxIUS = false ∧ ch.txIUS = false ∧
    ch.q.contents = [] ∧ ch.q.rptr = 0 ∧ ch.q.wptr = 0 ∧ ch.q.count = 0 ∧ ch.rx = 0x00 ∧ ch.tx = 0x00 ∧
    ch.capsPhase = .released ∧ ch.numPhase = .released ∧ ch.ledLatch = false ∧ ch.wants = false ∧
    ch.role = (s.chan x).role ∧ ch.disabled = (s.chan x).disabled

/-- The platform's reset of the ESCC (R392): both channels are in reset state and the line is low, the order of
the two resets cannot be observed, and the reset code for both channels has exactly the same effect. -/
def Obligations.EsccResetEffect : Prop :=
  ∀ (c : Chan) (low : BitVec 6) (s : State), ∃ t, exec .esccReset s = .next t ∧
    exec (.wr9RstAll c low) s = .next t ∧ t.irqLine = false ∧
    (∃ u, ChannelReset .A s u ∧ ChannelReset .B u t) ∧ ∃ u, ChannelReset .B s u ∧ ChannelReset .A u t

/-- The reset of the PS/2 mouse (R395, decision D39), and power-on (R396, decision D47): the three resets one
after the other bring any state to the reset values under its own parameters, with the queues empty and every
line low. -/
def Obligations.MouseResetAndPowerOn : Prop :=
  ∀ s : State,
    (∃ t, exec .mouseReset s = .next t ∧ MouseEffect s t Mouse.reset [] [.mouseIrq false]) ∧
    ∃ t u v, exec .esccReset s = .next t ∧ exec .kbdReset t = .next u ∧ exec .mouseReset u = .next v ∧
      (∀ x, v.chan x = { Channel.reset (s.chan x).role (s.chan x).disabled with q := (v.chan x).q } ∧
        (v.chan x).q.contents = []) ∧
      v.kbd = { Keyboard.reset with q := v.kbd.q } ∧ v.kbd.q.contents = [] ∧
      v.mouse = { Mouse.reset with q := v.mouse.q } ∧ v.mouse.q.contents = [] ∧ v.irqLine = false

/-! ## Invariants -/

/-- The state after power-on is sound on every platform, whatever its IT_SHIFT, CLOCK_HZ, ROLE and DISABLED
(00 R4; 70 R396), and so is the state after reset, which is power-on under the open parameters of log 4. It rests
on the reset values of the spec and on the empty slots of log 10. -/
def Obligations.ResetIsSound : Prop :=
  (∀ (itShift : Nat) (clockHz : ℕ+) (role : Chan → Role) (disabled : Chan → Bool),
    (State.powerOn itShift clockHz role disabled).Sound) ∧
  State.reset.Sound

/-- Every step keeps the invariant (10 R21, R25, R38, R43 to R48, R50, R54; 45 R270; 46 R315): queue cursors
and counts agree and never pass the capacity, a class under service is pending, the read registers hold
only what the spec lets them hold, and the PS/2 lines are high exactly when their queues are not empty. -/
def Obligations.StepKeepsSound : Prop :=
  ∀ s t : State, s.Sound → step s = .next t → t.Sound
end

