-- ==== Sys2Proof/Laws/Queue.lean ====
section
/-! SUPPORT. The byte queue as a list (spec/40_bytequeue.md R140 to R144): what each queue operation does
to `contents`, and that each keeps the queue's invariant. -/

namespace Sys2Proof.Machine

variable {C : Nat} [NeZero C]

@[simp] theorem ByteQueue.enqueue_count (q : ByteQueue C) (b : Byte) :
    (q.enqueue b).count = q.count + 1 := rfl
@[simp] theorem ByteQueue.enqueue_rptr (q : ByteQueue C) (b : Byte) : (q.enqueue b).rptr = q.rptr := rfl
@[simp] theorem ByteQueue.enqueue_wptr (q : ByteQueue C) (b : Byte) :
    (q.enqueue b).wptr = q.wptr + 1 := rfl
@[simp] theorem ByteQueue.dequeue_count (q : ByteQueue C) : q.dequeue.count = q.count - 1 := rfl
@[simp] theorem ByteQueue.dequeue_rptr (q : ByteQueue C) : q.dequeue.rptr = q.rptr + 1 := rfl
@[simp] theorem ByteQueue.dequeue_wptr (q : ByteQueue C) : q.dequeue.wptr = q.wptr := rfl
@[simp] theorem ByteQueue.dequeue_data (q : ByteQueue C) : q.dequeue.data = q.data := rfl
@[simp] theorem ByteQueue.clear_count (q : ByteQueue C) : q.clear.count = 0 := rfl
@[simp] theorem ByteQueue.clear_rptr (q : ByteQueue C) : q.clear.rptr = 0 := rfl
@[simp] theorem ByteQueue.clear_wptr (q : ByteQueue C) : q.clear.wptr = 0 := rfl
@[simp] theorem ByteQueue.clear_data (q : ByteQueue C) : q.clear.data = q.data := rfl

omit [NeZero C] in
theorem ByteQueue.isFull_iff (q : ByteQueue C) : q.isFull = true ↔ q.count = C := by
  simp [ByteQueue.isFull]

theorem ByteQueue.wf_iff (q : ByteQueue C) :
    q.wf = true ↔ q.count ≤ C ∧ q.wptr = q.rptr + Fin.ofNat C q.count := by
  simp [ByteQueue.wf]

@[simp] theorem ByteQueue.length_contents (q : ByteQueue C) : q.contents.length = q.count := by
  simp [ByteQueue.contents]

theorem ByteQueue.contents_eq_nil (q : ByteQueue C) : q.contents = [] ↔ q.count = 0 := by
  rw [← List.length_eq_zero_iff, ByteQueue.length_contents]

@[simp] theorem ByteQueue.clear_contents (q : ByteQueue C) : q.clear.contents = [] := by
  simp [ByteQueue.contents]

@[simp] theorem ByteQueue.clear_wf (q : ByteQueue C) : q.clear.wf = true := by
  simp [ByteQueue.wf_iff]

/-- Cursor arithmetic: two slots less than `C` apart are distinct. -/
theorem slot_ne {r : Fin C} {i n : Nat} (hi : i < n) (hn : n < C) :
    (r + Fin.ofNat C n).val ≠ (r + Fin.ofNat C i).val := by
  intro h
  have h1 : r + Fin.ofNat C n = r + Fin.ofNat C i := Fin.ext h
  have h2 := add_left_cancel h1
  have h3 := congrArg Fin.val h2
  simp only [Fin.val_ofNat, Nat.mod_eq_of_lt hn, Nat.mod_eq_of_lt (Nat.lt_trans hi hn)] at h3
  omega

@[simp] theorem ByteQueue.dequeue_slot (q : ByteQueue C) (i : Fin C) :
    q.dequeue.slot i = q.slot i := rfl

theorem ByteQueue.enqueue_slot (q : ByteQueue C) (b : Byte) (i : Fin C) :
    (q.enqueue b).slot i = if q.wptr = i then b else q.slot i := by
  simp [ByteQueue.enqueue, ByteQueue.slot, Vector.getElem_set, Fin.ext_iff]

/-- An accepted push appends its byte (R140). -/
theorem ByteQueue.enqueue_contents (q : ByteQueue C) (b : Byte) (hq : q.wf = true)
    (hf : q.isFull = false) : (q.enqueue b).contents = q.contents ++ [b] := by
  obtain ⟨hc, hw⟩ := q.wf_iff.mp hq
  have hlt : q.count < C := by
    have : q.count ≠ C := fun h => by simp [q.isFull_iff.mpr h] at hf
    omega
  have hkeep : ∀ i ∈ List.range q.count,
      (q.enqueue b).slot (q.rptr + Fin.ofNat C i) = q.slot (q.rptr + Fin.ofNat C i) := by
    intro i hi
    rw [enqueue_slot, hw, if_neg]
    exact fun h => slot_ne (List.mem_range.mp hi) hlt (congrArg Fin.val h)
  unfold ByteQueue.contents
  rw [enqueue_count, List.range_succ, List.map_append, enqueue_rptr, List.map_congr_left hkeep,
    List.map_singleton, enqueue_slot, if_pos hw]

/-- The byte at the read cursor is the head (R141). -/
theorem ByteQueue.contents_eq_cons (q : ByteQueue C) (h : q.count ≠ 0) :
    q.contents = q.front :: q.dequeue.contents := by
  obtain ⟨n, hn⟩ := Nat.exists_eq_succ_of_ne_zero h
  unfold ByteQueue.contents ByteQueue.front
  rw [dequeue_count, hn, List.range_succ_eq_map]
  simp only [List.map_cons, List.map_map, Nat.succ_eq_add_one, Nat.add_sub_cancel]
  congr 1
  · simp
  · apply List.map_congr_left
    intro i _
    have hsum : q.rptr + Fin.ofNat C (i + 1) = q.rptr + 1 + Fin.ofNat C i := by
      have : Fin.ofNat C (i + 1) = 1 + Fin.ofNat C i := by
        apply Fin.ext
        simp [Fin.val_add, Nat.add_comm]
      rw [this, add_assoc]
    simp only [Function.comp_apply, Nat.succ_eq_add_one, dequeue_rptr, dequeue_slot, hsum]

/-- An accepted push keeps the invariant. -/
theorem ByteQueue.enqueue_wf (q : ByteQueue C) (b : Byte) (hq : q.wf = true)
    (hf : q.isFull = false) : (q.enqueue b).wf = true := by
  obtain ⟨hc, hw⟩ := q.wf_iff.mp hq
  have hne : q.count ≠ C := fun h => by simp [q.isFull_iff.mpr h] at hf
  refine (ByteQueue.wf_iff _).mpr ⟨by simp only [enqueue_count]; omega, ?_⟩
  have : Fin.ofNat C (q.count + 1) = Fin.ofNat C q.count + 1 := by
    apply Fin.ext
    simp [Fin.val_add]
  rw [enqueue_wptr, enqueue_rptr, enqueue_count, hw, this, add_assoc]

/-- The removal of a byte keeps the invariant. -/
theorem ByteQueue.dequeue_wf (q : ByteQueue C) (hq : q.wf = true) (h : q.count ≠ 0) :
    q.dequeue.wf = true := by
  obtain ⟨hc, hw⟩ := q.wf_iff.mp hq
  obtain ⟨n, hn⟩ := Nat.exists_eq_succ_of_ne_zero h
  refine (ByteQueue.wf_iff _).mpr ⟨by simp only [dequeue_count]; omega, ?_⟩
  have : Fin.ofNat C (n + 1) = 1 + Fin.ofNat C n := by
    apply Fin.ext
    simp [Fin.val_add, Nat.add_comm]
  rw [dequeue_wptr, dequeue_rptr, dequeue_count, hw, hn, Nat.succ_eq_add_one, this, ← add_assoc,
    Nat.add_sub_cancel]

end Sys2Proof.Machine
end

