-- ==== Sys2Proof/Laws/State.lean ====
section
/-! SUPPORT. One lemma per field per update of the state, each true by `rfl` (after a case split on the
channel where the channel is a variable), so that no later proof unfolds a record update. -/

namespace Sys2Proof.Machine

/-! ## Channels -/

@[simp] theorem sib_A : Chan.sib .A = .B := rfl
@[simp] theorem sib_B : Chan.sib .B = .A := rfl
@[simp] theorem sib_sib (c : Chan) : c.sib.sib = c := by cases c <;> rfl
@[simp] theorem sib_ne (c : Chan) : c.sib ≠ c := by cases c <;> decide
@[simp] theorem ne_sib (c : Chan) : c ≠ c.sib := by cases c <;> decide
theorem eq_or_eq_sib (x c : Chan) : x = c ∨ x = c.sib := by cases x <;> cases c <;> simp

theorem chan_A (s : State) : s.chan .A = s.chA := rfl
theorem chan_B (s : State) : s.chan .B = s.chB := rfl

/-- Two states with the same channels and the same rest are the same. -/
theorem State.ext_chan {s t : State} (hch : ∀ x, s.chan x = t.chan x) (hk : s.kbd = t.kbd)
    (hm : s.mouse = t.mouse) (hp : s.params = t.params) (hi : s.inputs = t.inputs)
    (ho : s.out = t.out) : s = t := by
  have hA := hch .A
  have hB := hch .B
  rw [chan_A, chan_A] at hA
  rw [chan_B, chan_B] at hB
  cases s
  cases t
  simp_all

/-! ## setChan, modChan -/

theorem chan_setChan (s : State) (c x : Chan) (ch : Channel) :
    (s.setChan c ch).chan x = if x = c then ch else s.chan x := by cases c <;> cases x <;> rfl
theorem chan_modChan (s : State) (c x : Chan) (f : Channel → Channel) :
    (s.modChan c f).chan x = if x = c then f (s.chan x) else s.chan x := by
  cases c <;> cases x <;> rfl
@[simp] theorem setChan_chan_same (s : State) (c : Chan) (ch : Channel) :
    (s.setChan c ch).chan c = ch := by cases c <;> rfl
@[simp] theorem setChan_chan_sib (s : State) (c : Chan) (ch : Channel) :
    (s.setChan c ch).chan c.sib = s.chan c.sib := by cases c <;> rfl
@[simp] theorem setChan_sib_chan (s : State) (c : Chan) (ch : Channel) :
    (s.setChan c.sib ch).chan c = s.chan c := by cases c <;> rfl
@[simp] theorem modChan_chan_same (s : State) (c : Chan) (f : Channel → Channel) :
    (s.modChan c f).chan c = f (s.chan c) := by cases c <;> rfl
@[simp] theorem modChan_chan_sib (s : State) (c : Chan) (f : Channel → Channel) :
    (s.modChan c f).chan c.sib = s.chan c.sib := by cases c <;> rfl
@[simp] theorem modChan_sib_chan (s : State) (c : Chan) (f : Channel → Channel) :
    (s.modChan c.sib f).chan c = s.chan c := by cases c <;> rfl
@[simp] theorem setChan_A_chA (s : State) (ch : Channel) : (s.setChan .A ch).chA = ch := rfl
@[simp] theorem setChan_A_chB (s : State) (ch : Channel) : (s.setChan .A ch).chB = s.chB := rfl
@[simp] theorem setChan_B_chB (s : State) (ch : Channel) : (s.setChan .B ch).chB = ch := rfl
@[simp] theorem setChan_B_chA (s : State) (ch : Channel) : (s.setChan .B ch).chA = s.chA := rfl
@[simp] theorem setChan_kbd (s : State) (c : Chan) (ch : Channel) : (s.setChan c ch).kbd = s.kbd := by
  cases c <;> rfl
@[simp] theorem setChan_mouse (s : State) (c : Chan) (ch : Channel) : (s.setChan c ch).mouse = s.mouse := by
  cases c <;> rfl
@[simp] theorem setChan_params (s : State) (c : Chan) (ch : Channel) : (s.setChan c ch).params = s.params := by
  cases c <;> rfl
@[simp] theorem setChan_inputs (s : State) (c : Chan) (ch : Channel) : (s.setChan c ch).inputs = s.inputs := by
  cases c <;> rfl
@[simp] theorem setChan_out (s : State) (c : Chan) (ch : Channel) : (s.setChan c ch).out = s.out := by
  cases c <;> rfl
@[simp] theorem modChan_A_chA (s : State) (f : Channel → Channel) : (s.modChan .A f).chA = f s.chA := rfl
@[simp] theorem modChan_A_chB (s : State) (f : Channel → Channel) : (s.modChan .A f).chB = s.chB := rfl
@[simp] theorem modChan_B_chB (s : State) (f : Channel → Channel) : (s.modChan .B f).chB = f s.chB := rfl
@[simp] theorem modChan_B_chA (s : State) (f : Channel → Channel) : (s.modChan .B f).chA = s.chA := rfl
@[simp] theorem modChan_kbd (s : State) (c : Chan) (f : Channel → Channel) : (s.modChan c f).kbd = s.kbd := by
  cases c <;> rfl
@[simp] theorem modChan_mouse (s : State) (c : Chan) (f : Channel → Channel) : (s.modChan c f).mouse = s.mouse := by
  cases c <;> rfl
@[simp] theorem modChan_params (s : State) (c : Chan) (f : Channel → Channel) : (s.modChan c f).params = s.params := by
  cases c <;> rfl
@[simp] theorem modChan_inputs (s : State) (c : Chan) (f : Channel → Channel) : (s.modChan c f).inputs = s.inputs := by
  cases c <;> rfl
@[simp] theorem modChan_out (s : State) (c : Chan) (f : Channel → Channel) : (s.modChan c f).out = s.out := by
  cases c <;> rfl

/-! ## emit -/

@[simp] theorem emit_chA (s : State) (o : Output) : (s.emit o).chA = s.chA := rfl
@[simp] theorem emit_chB (s : State) (o : Output) : (s.emit o).chB = s.chB := rfl
@[simp] theorem emit_kbd (s : State) (o : Output) : (s.emit o).kbd = s.kbd := rfl
@[simp] theorem emit_mouse (s : State) (o : Output) : (s.emit o).mouse = s.mouse := rfl
@[simp] theorem emit_params (s : State) (o : Output) : (s.emit o).params = s.params := rfl
@[simp] theorem emit_inputs (s : State) (o : Output) : (s.emit o).inputs = s.inputs := rfl
@[simp] theorem emit_chan (s : State) (o : Output) (x : Chan) : (s.emit o).chan x = s.chan x := by
  cases x <;> rfl
@[simp] theorem emit_out (s : State) (o : Output) : (s.emit o).out = s.out ++ [o] := rfl

/-! ## Registers of a channel -/

@[simp] theorem setWR_sel (ch : Channel) (n : Fin 16) (v : Byte) : (ch.setWR n v).sel = ch.sel := rfl
@[simp] theorem setWR_wr (ch : Channel) (n : Fin 16) (v : Byte) : (ch.setWR n v).wr = ch.wr.set n v := rfl
@[simp] theorem setWR_rr (ch : Channel) (n : Fin 16) (v : Byte) : (ch.setWR n v).rr = ch.rr := rfl
@[simp] theorem setWR_rxPending (ch : Channel) (n : Fin 16) (v : Byte) : (ch.setWR n v).rxPending = ch.rxPending := rfl
@[simp] theorem setWR_txPending (ch : Channel) (n : Fin 16) (v : Byte) : (ch.setWR n v).txPending = ch.txPending := rfl
@[simp] theorem setWR_rxIUS (ch : Channel) (n : Fin 16) (v : Byte) : (ch.setWR n v).rxIUS = ch.rxIUS := rfl
@[simp] theorem setWR_txIUS (ch : Channel) (n : Fin 16) (v : Byte) : (ch.setWR n v).txIUS = ch.txIUS := rfl
@[simp] theorem setWR_q (ch : Channel) (n : Fin 16) (v : Byte) : (ch.setWR n v).q = ch.q := rfl
@[simp] theorem setWR_rx (ch : Channel) (n : Fin 16) (v : Byte) : (ch.setWR n v).rx = ch.rx := rfl
@[simp] theorem setWR_tx (ch : Channel) (n : Fin 16) (v : Byte) : (ch.setWR n v).tx = ch.tx := rfl
@[simp] theorem setWR_capsPhase (ch : Channel) (n : Fin 16) (v : Byte) : (ch.setWR n v).capsPhase = ch.capsPhase := rfl
@[simp] theorem setWR_numPhase (ch : Channel) (n : Fin 16) (v : Byte) : (ch.setWR n v).numPhase = ch.numPhase := rfl
@[simp] theorem setWR_ledLatch (ch : Channel) (n : Fin 16) (v : Byte) : (ch.setWR n v).ledLatch = ch.ledLatch := rfl
@[simp] theorem setWR_role (ch : Channel) (n : Fin 16) (v : Byte) : (ch.setWR n v).role = ch.role := rfl
@[simp] theorem setWR_disabled (ch : Channel) (n : Fin 16) (v : Byte) : (ch.setWR n v).disabled = ch.disabled := rfl
@[simp] theorem setRR_sel (ch : Channel) (n : Fin 16) (v : Byte) : (ch.setRR n v).sel = ch.sel := rfl
@[simp] theorem setRR_wr (ch : Channel) (n : Fin 16) (v : Byte) : (ch.setRR n v).wr = ch.wr := rfl
@[simp] theorem setRR_rr (ch : Channel) (n : Fin 16) (v : Byte) : (ch.setRR n v).rr = ch.rr.set n v := rfl
@[simp] theorem setRR_rxPending (ch : Channel) (n : Fin 16) (v : Byte) : (ch.setRR n v).rxPending = ch.rxPending := rfl
@[simp] theorem setRR_txPending (ch : Channel) (n : Fin 16) (v : Byte) : (ch.setRR n v).txPending = ch.txPending := rfl
@[simp] theorem setRR_rxIUS (ch : Channel) (n : Fin 16) (v : Byte) : (ch.setRR n v).rxIUS = ch.rxIUS := rfl
@[simp] theorem setRR_txIUS (ch : Channel) (n : Fin 16) (v : Byte) : (ch.setRR n v).txIUS = ch.txIUS := rfl
@[simp] theorem setRR_q (ch : Channel) (n : Fin 16) (v : Byte) : (ch.setRR n v).q = ch.q := rfl
@[simp] theorem setRR_rx (ch : Channel) (n : Fin 16) (v : Byte) : (ch.setRR n v).rx = ch.rx := rfl
@[simp] theorem setRR_tx (ch : Channel) (n : Fin 16) (v : Byte) : (ch.setRR n v).tx = ch.tx := rfl
@[simp] theorem setRR_capsPhase (ch : Channel) (n : Fin 16) (v : Byte) : (ch.setRR n v).capsPhase = ch.capsPhase := rfl
@[simp] theorem setRR_numPhase (ch : Channel) (n : Fin 16) (v : Byte) : (ch.setRR n v).numPhase = ch.numPhase := rfl
@[simp] theorem setRR_ledLatch (ch : Channel) (n : Fin 16) (v : Byte) : (ch.setRR n v).ledLatch = ch.ledLatch := rfl
@[simp] theorem setRR_role (ch : Channel) (n : Fin 16) (v : Byte) : (ch.setRR n v).role = ch.role := rfl
@[simp] theorem setRR_disabled (ch : Channel) (n : Fin 16) (v : Byte) : (ch.setRR n v).disabled = ch.disabled := rfl
@[simp] theorem setStatus_sel (ch : Channel) (b : Byte) : (ch.setStatus b).sel = ch.sel := rfl
@[simp] theorem setStatus_wr (ch : Channel) (b : Byte) : (ch.setStatus b).wr = ch.wr := rfl
@[simp] theorem setStatus_rr (ch : Channel) (b : Byte) : (ch.setStatus b).rr = ch.rr.set 0 (ch.rr[0] ||| b) := rfl
@[simp] theorem setStatus_rxPending (ch : Channel) (b : Byte) : (ch.setStatus b).rxPending = ch.rxPending := rfl
@[simp] theorem setStatus_txPending (ch : Channel) (b : Byte) : (ch.setStatus b).txPending = ch.txPending := rfl
@[simp] theorem setStatus_rxIUS (ch : Channel) (b : Byte) : (ch.setStatus b).rxIUS = ch.rxIUS := rfl
@[simp] theorem setStatus_txIUS (ch : Channel) (b : Byte) : (ch.setStatus b).txIUS = ch.txIUS := rfl
@[simp] theorem setStatus_q (ch : Channel) (b : Byte) : (ch.setStatus b).q = ch.q := rfl
@[simp] theorem setStatus_rx (ch : Channel) (b : Byte) : (ch.setStatus b).rx = ch.rx := rfl
@[simp] theorem setStatus_tx (ch : Channel) (b : Byte) : (ch.setStatus b).tx = ch.tx := rfl
@[simp] theorem setStatus_capsPhase (ch : Channel) (b : Byte) : (ch.setStatus b).capsPhase = ch.capsPhase := rfl
@[simp] theorem setStatus_numPhase (ch : Channel) (b : Byte) : (ch.setStatus b).numPhase = ch.numPhase := rfl
@[simp] theorem setStatus_ledLatch (ch : Channel) (b : Byte) : (ch.setStatus b).ledLatch = ch.ledLatch := rfl
@[simp] theorem setStatus_role (ch : Channel) (b : Byte) : (ch.setStatus b).role = ch.role := rfl
@[simp] theorem setStatus_disabled (ch : Channel) (b : Byte) : (ch.setStatus b).disabled = ch.disabled := rfl
@[simp] theorem clearStatus_sel (ch : Channel) (b : Byte) : (ch.clearStatus b).sel = ch.sel := rfl
@[simp] theorem clearStatus_wr (ch : Channel) (b : Byte) : (ch.clearStatus b).wr = ch.wr := rfl
@[simp] theorem clearStatus_rr (ch : Channel) (b : Byte) : (ch.clearStatus b).rr = ch.rr.set 0 (ch.rr[0] &&& ~~~b) := rfl
@[simp] theorem clearStatus_rxPending (ch : Channel) (b : Byte) : (ch.clearStatus b).rxPending = ch.rxPending := rfl
@[simp] theorem clearStatus_txPending (ch : Channel) (b : Byte) : (ch.clearStatus b).txPending = ch.txPending := rfl
@[simp] theorem clearStatus_rxIUS (ch : Channel) (b : Byte) : (ch.clearStatus b).rxIUS = ch.rxIUS := rfl
@[simp] theorem clearStatus_txIUS (ch : Channel) (b : Byte) : (ch.clearStatus b).txIUS = ch.txIUS := rfl
@[simp] theorem clearStatus_q (ch : Channel) (b : Byte) : (ch.clearStatus b).q = ch.q := rfl
@[simp] theorem clearStatus_rx (ch : Channel) (b : Byte) : (ch.clearStatus b).rx = ch.rx := rfl
@[simp] theorem clearStatus_tx (ch : Channel) (b : Byte) : (ch.clearStatus b).tx = ch.tx := rfl
@[simp] theorem clearStatus_capsPhase (ch : Channel) (b : Byte) : (ch.clearStatus b).capsPhase = ch.capsPhase := rfl
@[simp] theorem clearStatus_numPhase (ch : Channel) (b : Byte) : (ch.clearStatus b).numPhase = ch.numPhase := rfl
@[simp] theorem clearStatus_ledLatch (ch : Channel) (b : Byte) : (ch.clearStatus b).ledLatch = ch.ledLatch := rfl
@[simp] theorem clearStatus_role (ch : Channel) (b : Byte) : (ch.clearStatus b).role = ch.role := rfl
@[simp] theorem clearStatus_disabled (ch : Channel) (b : Byte) : (ch.clearStatus b).disabled = ch.disabled := rfl

/-! ## The PS/2 devices -/

@[simp] theorem setKbdIrq_chA (l : Bool) (s : State) : (setKbdIrq l s).chA = s.chA := rfl
@[simp] theorem setKbdIrq_chB (l : Bool) (s : State) : (setKbdIrq l s).chB = s.chB := rfl
@[simp] theorem setKbdIrq_mouse (l : Bool) (s : State) : (setKbdIrq l s).mouse = s.mouse := rfl
@[simp] theorem setKbdIrq_params (l : Bool) (s : State) : (setKbdIrq l s).params = s.params := rfl
@[simp] theorem setKbdIrq_inputs (l : Bool) (s : State) : (setKbdIrq l s).inputs = s.inputs := rfl
@[simp] theorem setKbdIrq_chan (l : Bool) (s : State) (x : Chan) : (setKbdIrq l s).chan x = s.chan x := by
  cases x <;> rfl
@[simp] theorem setKbdIrq_out (l : Bool) (s : State) : (setKbdIrq l s).out = s.out ++ [.kbdIrq l] := rfl
@[simp] theorem setKbdIrq_q (l : Bool) (s : State) : (setKbdIrq l s).kbd.q = s.kbd.q := rfl
@[simp] theorem setKbdIrq_writeCmd (l : Bool) (s : State) : (setKbdIrq l s).kbd.writeCmd = s.kbd.writeCmd := rfl
@[simp] theorem setKbdIrq_irq (l : Bool) (s : State) : (setKbdIrq l s).kbd.irq = l := rfl
@[simp] theorem setKbdIrq_scanEnabled (l : Bool) (s : State) : (setKbdIrq l s).kbd.scanEnabled = s.kbd.scanEnabled := rfl
@[simp] theorem setKbdIrq_translate (l : Bool) (s : State) : (setKbdIrq l s).kbd.translate = s.kbd.translate := rfl
@[simp] theorem setKbdIrq_scancodeSet (l : Bool) (s : State) : (setKbdIrq l s).kbd.scancodeSet = s.kbd.scancodeSet := rfl
@[simp] theorem setKbdIrq_ledstate (l : Bool) (s : State) : (setKbdIrq l s).kbd.ledstate = s.kbd.ledstate := rfl
@[simp] theorem setKbdCmd_chA (m : Option KbdArg) (s : State) : (setKbdCmd m s).chA = s.chA := rfl
@[simp] theorem setKbdCmd_chB (m : Option KbdArg) (s : State) : (setKbdCmd m s).chB = s.chB := rfl
@[simp] theorem setKbdCmd_mouse (m : Option KbdArg) (s : State) : (setKbdCmd m s).mouse = s.mouse := rfl
@[simp] theorem setKbdCmd_params (m : Option KbdArg) (s : State) : (setKbdCmd m s).params = s.params := rfl
@[simp] theorem setKbdCmd_inputs (m : Option KbdArg) (s : State) : (setKbdCmd m s).inputs = s.inputs := rfl
@[simp] theorem setKbdCmd_chan (m : Option KbdArg) (s : State) (x : Chan) : (setKbdCmd m s).chan x = s.chan x := by
  cases x <;> rfl
@[simp] theorem setKbdCmd_out (m : Option KbdArg) (s : State) : (setKbdCmd m s).out = s.out := rfl
@[simp] theorem setKbdCmd_q (m : Option KbdArg) (s : State) : (setKbdCmd m s).kbd.q = s.kbd.q := rfl
@[simp] theorem setKbdCmd_writeCmd (m : Option KbdArg) (s : State) : (setKbdCmd m s).kbd.writeCmd = m := rfl
@[simp] theorem setKbdCmd_irq (m : Option KbdArg) (s : State) : (setKbdCmd m s).kbd.irq = s.kbd.irq := rfl
@[simp] theorem setKbdCmd_scanEnabled (m : Option KbdArg) (s : State) : (setKbdCmd m s).kbd.scanEnabled = s.kbd.scanEnabled := rfl
@[simp] theorem setKbdCmd_translate (m : Option KbdArg) (s : State) : (setKbdCmd m s).kbd.translate = s.kbd.translate := rfl
@[simp] theorem setKbdCmd_scancodeSet (m : Option KbdArg) (s : State) : (setKbdCmd m s).kbd.scancodeSet = s.kbd.scancodeSet := rfl
@[simp] theorem setKbdCmd_ledstate (m : Option KbdArg) (s : State) : (setKbdCmd m s).kbd.ledstate = s.kbd.ledstate := rfl
@[simp] theorem setScanEnabled_chA (b : Bool) (s : State) : (setScanEnabled b s).chA = s.chA := rfl
@[simp] theorem setScanEnabled_chB (b : Bool) (s : State) : (setScanEnabled b s).chB = s.chB := rfl
@[simp] theorem setScanEnabled_mouse (b : Bool) (s : State) : (setScanEnabled b s).mouse = s.mouse := rfl
@[simp] theorem setScanEnabled_params (b : Bool) (s : State) : (setScanEnabled b s).params = s.params := rfl
@[simp] theorem setScanEnabled_inputs (b : Bool) (s : State) : (setScanEnabled b s).inputs = s.inputs := rfl
@[simp] theorem setScanEnabled_chan (b : Bool) (s : State) (x : Chan) : (setScanEnabled b s).chan x = s.chan x := by
  cases x <;> rfl
@[simp] theorem setScanEnabled_out (b : Bool) (s : State) : (setScanEnabled b s).out = s.out := rfl
@[simp] theorem setScanEnabled_q (b : Bool) (s : State) : (setScanEnabled b s).kbd.q = s.kbd.q := rfl
@[simp] theorem setScanEnabled_writeCmd (b : Bool) (s : State) : (setScanEnabled b s).kbd.writeCmd = s.kbd.writeCmd := rfl
@[simp] theorem setScanEnabled_irq (b : Bool) (s : State) : (setScanEnabled b s).kbd.irq = s.kbd.irq := rfl
@[simp] theorem setScanEnabled_scanEnabled (b : Bool) (s : State) : (setScanEnabled b s).kbd.scanEnabled = b := rfl
@[simp] theorem setScanEnabled_translate (b : Bool) (s : State) : (setScanEnabled b s).kbd.translate = s.kbd.translate := rfl
@[simp] theorem setScanEnabled_scancodeSet (b : Bool) (s : State) : (setScanEnabled b s).kbd.scancodeSet = s.kbd.scancodeSet := rfl
@[simp] theorem setScanEnabled_ledstate (b : Bool) (s : State) : (setScanEnabled b s).kbd.ledstate = s.kbd.ledstate := rfl
@[simp] theorem clearKbd_chA (s : State) : (clearKbd s).chA = s.chA := rfl
@[simp] theorem clearKbd_chB (s : State) : (clearKbd s).chB = s.chB := rfl
@[simp] theorem clearKbd_mouse (s : State) : (clearKbd s).mouse = s.mouse := rfl
@[simp] theorem clearKbd_params (s : State) : (clearKbd s).params = s.params := rfl
@[simp] theorem clearKbd_inputs (s : State) : (clearKbd s).inputs = s.inputs := rfl
@[simp] theorem clearKbd_chan (s : State) (x : Chan) : (clearKbd s).chan x = s.chan x := by
  cases x <;> rfl
@[simp] theorem clearKbd_out (s : State) : (clearKbd s).out = s.out ++ [.kbdIrq false] := rfl
@[simp] theorem clearKbd_q (s : State) : (clearKbd s).kbd.q = s.kbd.q.clear := rfl
@[simp] theorem clearKbd_writeCmd (s : State) : (clearKbd s).kbd.writeCmd = s.kbd.writeCmd := rfl
@[simp] theorem clearKbd_irq (s : State) : (clearKbd s).kbd.irq = false := rfl
@[simp] theorem clearKbd_scanEnabled (s : State) : (clearKbd s).kbd.scanEnabled = s.kbd.scanEnabled := rfl
@[simp] theorem clearKbd_translate (s : State) : (clearKbd s).kbd.translate = s.kbd.translate := rfl
@[simp] theorem clearKbd_scancodeSet (s : State) : (clearKbd s).kbd.scancodeSet = s.kbd.scancodeSet := rfl
@[simp] theorem clearKbd_ledstate (s : State) : (clearKbd s).kbd.ledstate = s.kbd.ledstate := rfl
@[simp] theorem kbdFullReset_chA (s : State) : (kbdFullReset s).chA = s.chA := rfl
@[simp] theorem kbdFullReset_chB (s : State) : (kbdFullReset s).chB = s.chB := rfl
@[simp] theorem kbdFullReset_mouse (s : State) : (kbdFullReset s).mouse = s.mouse := rfl
@[simp] theorem kbdFullReset_params (s : State) : (kbdFullReset s).params = s.params := rfl
@[simp] theorem kbdFullReset_inputs (s : State) : (kbdFullReset s).inputs = s.inputs := rfl
@[simp] theorem kbdFullReset_chan (s : State) (x : Chan) : (kbdFullReset s).chan x = s.chan x := by
  cases x <;> rfl
@[simp] theorem kbdFullReset_out (s : State) : (kbdFullReset s).out = s.out ++ [.kbdIrq false] := rfl
@[simp] theorem kbdFullReset_q (s : State) : (kbdFullReset s).kbd.q = s.kbd.q.clear := rfl
@[simp] theorem kbdFullReset_writeCmd (s : State) : (kbdFullReset s).kbd.writeCmd = s.kbd.writeCmd := rfl
@[simp] theorem kbdFullReset_irq (s : State) : (kbdFullReset s).kbd.irq = false := rfl
@[simp] theorem kbdFullReset_scanEnabled (s : State) : (kbdFullReset s).kbd.scanEnabled = true := rfl
@[simp] theorem kbdFullReset_translate (s : State) : (kbdFullReset s).kbd.translate = s.kbd.translate := rfl
@[simp] theorem kbdFullReset_scancodeSet (s : State) : (kbdFullReset s).kbd.scancodeSet = .set2 := rfl
@[simp] theorem kbdFullReset_ledstate (s : State) : (kbdFullReset s).kbd.ledstate = 0x00 := rfl
@[simp] theorem kbdDeviceReset_chA (s : State) : (kbdDeviceReset s).chA = s.chA := rfl
@[simp] theorem kbdDeviceReset_chB (s : State) : (kbdDeviceReset s).chB = s.chB := rfl
@[simp] theorem kbdDeviceReset_mouse (s : State) : (kbdDeviceReset s).mouse = s.mouse := rfl
@[simp] theorem kbdDeviceReset_params (s : State) : (kbdDeviceReset s).params = s.params := rfl
@[simp] theorem kbdDeviceReset_inputs (s : State) : (kbdDeviceReset s).inputs = s.inputs := rfl
@[simp] theorem kbdDeviceReset_chan (s : State) (x : Chan) : (kbdDeviceReset s).chan x = s.chan x := by
  cases x <;> rfl
@[simp] theorem kbdDeviceReset_out (s : State) : (kbdDeviceReset s).out = s.out ++ [.kbdIrq false] := rfl
@[simp] theorem kbdDeviceReset_q (s : State) : (kbdDeviceReset s).kbd.q = s.kbd.q.clear := rfl
@[simp] theorem kbdDeviceReset_writeCmd (s : State) : (kbdDeviceReset s).kbd.writeCmd = none := rfl
@[simp] theorem kbdDeviceReset_irq (s : State) : (kbdDeviceReset s).kbd.irq = false := rfl
@[simp] theorem kbdDeviceReset_scanEnabled (s : State) : (kbdDeviceReset s).kbd.scanEnabled = false := rfl
@[simp] theorem kbdDeviceReset_translate (s : State) : (kbdDeviceReset s).kbd.translate = false := rfl
@[simp] theorem kbdDeviceReset_scancodeSet (s : State) : (kbdDeviceReset s).kbd.scancodeSet = .set2 := rfl
@[simp] theorem kbdDeviceReset_ledstate (s : State) : (kbdDeviceReset s).kbd.ledstate = 0x00 := rfl
@[simp] theorem setMouseIrq_chA (l : Bool) (s : State) : (setMouseIrq l s).chA = s.chA := rfl
@[simp] theorem setMouseIrq_chB (l : Bool) (s : State) : (setMouseIrq l s).chB = s.chB := rfl
@[simp] theorem setMouseIrq_kbd (l : Bool) (s : State) : (setMouseIrq l s).kbd = s.kbd := rfl
@[simp] theorem setMouseIrq_params (l : Bool) (s : State) : (setMouseIrq l s).params = s.params := rfl
@[simp] theorem setMouseIrq_inputs (l : Bool) (s : State) : (setMouseIrq l s).inputs = s.inputs := rfl
@[simp] theorem setMouseIrq_chan (l : Bool) (s : State) (x : Chan) : (setMouseIrq l s).chan x = s.chan x := by
  cases x <;> rfl
@[simp] theorem setMouseIrq_out (l : Bool) (s : State) : (setMouseIrq l s).out = s.out ++ [.mouseIrq l] := rfl
@[simp] theorem setMouseIrq_q (l : Bool) (s : State) : (setMouseIrq l s).mouse.q = s.mouse.q := rfl
@[simp] theorem setMouseIrq_writeCmd (l : Bool) (s : State) : (setMouseIrq l s).mouse.writeCmd = s.mouse.writeCmd := rfl
@[simp] theorem setMouseIrq_irq (l : Bool) (s : State) : (setMouseIrq l s).mouse.irq = l := rfl
@[simp] theorem setMouseIrq_status (l : Bool) (s : State) : (setMouseIrq l s).mouse.status = s.mouse.status := rfl
@[simp] theorem setMouseIrq_resolution (l : Bool) (s : State) : (setMouseIrq l s).mouse.resolution = s.mouse.resolution := rfl
@[simp] theorem setMouseIrq_sampleRate (l : Bool) (s : State) : (setMouseIrq l s).mouse.sampleRate = s.mouse.sampleRate := rfl
@[simp] theorem setMouseIrq_wrap (l : Bool) (s : State) : (setMouseIrq l s).mouse.wrap = s.mouse.wrap := rfl
@[simp] theorem setMouseIrq_mtype (l : Bool) (s : State) : (setMouseIrq l s).mouse.mtype = s.mouse.mtype := rfl
@[simp] theorem setMouseIrq_detectState (l : Bool) (s : State) : (setMouseIrq l s).mouse.detectState = s.mouse.detectState := rfl
@[simp] theorem setMouseIrq_dx (l : Bool) (s : State) : (setMouseIrq l s).mouse.dx = s.mouse.dx := rfl
@[simp] theorem setMouseIrq_dy (l : Bool) (s : State) : (setMouseIrq l s).mouse.dy = s.mouse.dy := rfl
@[simp] theorem setMouseIrq_dz (l : Bool) (s : State) : (setMouseIrq l s).mouse.dz = s.mouse.dz := rfl
@[simp] theorem setMouseIrq_buttons (l : Bool) (s : State) : (setMouseIrq l s).mouse.buttons = s.mouse.buttons := rfl
@[simp] theorem setAuxCmd_chA (m : Option AuxArg) (s : State) : (setAuxCmd m s).chA = s.chA := rfl
@[simp] theorem setAuxCmd_chB (m : Option AuxArg) (s : State) : (setAuxCmd m s).chB = s.chB := rfl
@[simp] theorem setAuxCmd_kbd (m : Option AuxArg) (s : State) : (setAuxCmd m s).kbd = s.kbd := rfl
@[simp] theorem setAuxCmd_params (m : Option AuxArg) (s : State) : (setAuxCmd m s).params = s.params := rfl
@[simp] theorem setAuxCmd_inputs (m : Option AuxArg) (s : State) : (setAuxCmd m s).inputs = s.inputs := rfl
@[simp] theorem setAuxCmd_chan (m : Option AuxArg) (s : State) (x : Chan) : (setAuxCmd m s).chan x = s.chan x := by
  cases x <;> rfl
@[simp] theorem setAuxCmd_out (m : Option AuxArg) (s : State) : (setAuxCmd m s).out = s.out := rfl
@[simp] theorem setAuxCmd_q (m : Option AuxArg) (s : State) : (setAuxCmd m s).mouse.q = s.mouse.q := rfl
@[simp] theorem setAuxCmd_writeCmd (m : Option AuxArg) (s : State) : (setAuxCmd m s).mouse.writeCmd = m := rfl
@[simp] theorem setAuxCmd_irq (m : Option AuxArg) (s : State) : (setAuxCmd m s).mouse.irq = s.mouse.irq := rfl
@[simp] theorem setAuxCmd_status (m : Option AuxArg) (s : State) : (setAuxCmd m s).mouse.status = s.mouse.status := rfl
@[simp] theorem setAuxCmd_resolution (m : Option AuxArg) (s : State) : (setAuxCmd m s).mouse.resolution = s.mouse.resolution := rfl
@[simp] theorem setAuxCmd_sampleRate (m : Option AuxArg) (s : State) : (setAuxCmd m s).mouse.sampleRate = s.mouse.sampleRate := rfl
@[simp] theorem setAuxCmd_wrap (m : Option AuxArg) (s : State) : (setAuxCmd m s).mouse.wrap = s.mouse.wrap := rfl
@[simp] theorem setAuxCmd_mtype (m : Option AuxArg) (s : State) : (setAuxCmd m s).mouse.mtype = s.mouse.mtype := rfl
@[simp] theorem setAuxCmd_detectState (m : Option AuxArg) (s : State) : (setAuxCmd m s).mouse.detectState = s.mouse.detectState := rfl
@[simp] theorem setAuxCmd_dx (m : Option AuxArg) (s : State) : (setAuxCmd m s).mouse.dx = s.mouse.dx := rfl
@[simp] theorem setAuxCmd_dy (m : Option AuxArg) (s : State) : (setAuxCmd m s).mouse.dy = s.mouse.dy := rfl
@[simp] theorem setAuxCmd_dz (m : Option AuxArg) (s : State) : (setAuxCmd m s).mouse.dz = s.mouse.dz := rfl
@[simp] theorem setAuxCmd_buttons (m : Option AuxArg) (s : State) : (setAuxCmd m s).mouse.buttons = s.mouse.buttons := rfl
@[simp] theorem setWrap_chA (b : Bool) (s : State) : (setWrap b s).chA = s.chA := rfl
@[simp] theorem setWrap_chB (b : Bool) (s : State) : (setWrap b s).chB = s.chB := rfl
@[simp] theorem setWrap_kbd (b : Bool) (s : State) : (setWrap b s).kbd = s.kbd := rfl
@[simp] theorem setWrap_params (b : Bool) (s : State) : (setWrap b s).params = s.params := rfl
@[simp] theorem setWrap_inputs (b : Bool) (s : State) : (setWrap b s).inputs = s.inputs := rfl
@[simp] theorem setWrap_chan (b : Bool) (s : State) (x : Chan) : (setWrap b s).chan x = s.chan x := by
  cases x <;> rfl
@[simp] theorem setWrap_out (b : Bool) (s : State) : (setWrap b s).out = s.out := rfl
@[simp] theorem setWrap_q (b : Bool) (s : State) : (setWrap b s).mouse.q = s.mouse.q := rfl
@[simp] theorem setWrap_writeCmd (b : Bool) (s : State) : (setWrap b s).mouse.writeCmd = s.mouse.writeCmd := rfl
@[simp] theorem setWrap_irq (b : Bool) (s : State) : (setWrap b s).mouse.irq = s.mouse.irq := rfl
@[simp] theorem setWrap_status (b : Bool) (s : State) : (setWrap b s).mouse.status = s.mouse.status := rfl
@[simp] theorem setWrap_resolution (b : Bool) (s : State) : (setWrap b s).mouse.resolution = s.mouse.resolution := rfl
@[simp] theorem setWrap_sampleRate (b : Bool) (s : State) : (setWrap b s).mouse.sampleRate = s.mouse.sampleRate := rfl
@[simp] theorem setWrap_wrap (b : Bool) (s : State) : (setWrap b s).mouse.wrap = b := rfl
@[simp] theorem setWrap_mtype (b : Bool) (s : State) : (setWrap b s).mouse.mtype = s.mouse.mtype := rfl
@[simp] theorem setWrap_detectState (b : Bool) (s : State) : (setWrap b s).mouse.detectState = s.mouse.detectState := rfl
@[simp] theorem setWrap_dx (b : Bool) (s : State) : (setWrap b s).mouse.dx = s.mouse.dx := rfl
@[simp] theorem setWrap_dy (b : Bool) (s : State) : (setWrap b s).mouse.dy = s.mouse.dy := rfl
@[simp] theorem setWrap_dz (b : Bool) (s : State) : (setWrap b s).mouse.dz = s.mouse.dz := rfl
@[simp] theorem setWrap_buttons (b : Bool) (s : State) : (setWrap b s).mouse.buttons = s.mouse.buttons := rfl
@[simp] theorem setMouseStatus_chA (b : Byte) (s : State) : (setMouseStatus b s).chA = s.chA := rfl
@[simp] theorem setMouseStatus_chB (b : Byte) (s : State) : (setMouseStatus b s).chB = s.chB := rfl
@[simp] theorem setMouseStatus_kbd (b : Byte) (s : State) : (setMouseStatus b s).kbd = s.kbd := rfl
@[simp] theorem setMouseStatus_params (b : Byte) (s : State) : (setMouseStatus b s).params = s.params := rfl
@[simp] theorem setMouseStatus_inputs (b : Byte) (s : State) : (setMouseStatus b s).inputs = s.inputs := rfl
@[simp] theorem setMouseStatus_chan (b : Byte) (s : State) (x : Chan) : (setMouseStatus b s).chan x = s.chan x := by
  cases x <;> rfl
@[simp] theorem setMouseStatus_out (b : Byte) (s : State) : (setMouseStatus b s).out = s.out := rfl
@[simp] theorem setMouseStatus_q (b : Byte) (s : State) : (setMouseStatus b s).mouse.q = s.mouse.q := rfl
@[simp] theorem setMouseStatus_writeCmd (b : Byte) (s : State) : (setMouseStatus b s).mouse.writeCmd = s.mouse.writeCmd := rfl
@[simp] theorem setMouseStatus_irq (b : Byte) (s : State) : (setMouseStatus b s).mouse.irq = s.mouse.irq := rfl
@[simp] theorem setMouseStatus_status (b : Byte) (s : State) : (setMouseStatus b s).mouse.status = s.mouse.status ||| b := rfl
@[simp] theorem setMouseStatus_resolution (b : Byte) (s : State) : (setMouseStatus b s).mouse.resolution = s.mouse.resolution := rfl
@[simp] theorem setMouseStatus_sampleRate (b : Byte) (s : State) : (setMouseStatus b s).mouse.sampleRate = s.mouse.sampleRate := rfl
@[simp] theorem setMouseStatus_wrap (b : Byte) (s : State) : (setMouseStatus b s).mouse.wrap = s.mouse.wrap := rfl
@[simp] theorem setMouseStatus_mtype (b : Byte) (s : State) : (setMouseStatus b s).mouse.mtype = s.mouse.mtype := rfl
@[simp] theorem setMouseStatus_detectState (b : Byte) (s : State) : (setMouseStatus b s).mouse.detectState = s.mouse.detectState := rfl
@[simp] theorem setMouseStatus_dx (b : Byte) (s : State) : (setMouseStatus b s).mouse.dx = s.mouse.dx := rfl
@[simp] theorem setMouseStatus_dy (b : Byte) (s : State) : (setMouseStatus b s).mouse.dy = s.mouse.dy := rfl
@[simp] theorem setMouseStatus_dz (b : Byte) (s : State) : (setMouseStatus b s).mouse.dz = s.mouse.dz := rfl
@[simp] theorem setMouseStatus_buttons (b : Byte) (s : State) : (setMouseStatus b s).mouse.buttons = s.mouse.buttons := rfl
@[simp] theorem clearMouseStatus_chA (b : Byte) (s : State) : (clearMouseStatus b s).chA = s.chA := rfl
@[simp] theorem clearMouseStatus_chB (b : Byte) (s : State) : (clearMouseStatus b s).chB = s.chB := rfl
@[simp] theorem clearMouseStatus_kbd (b : Byte) (s : State) : (clearMouseStatus b s).kbd = s.kbd := rfl
@[simp] theorem clearMouseStatus_params (b : Byte) (s : State) : (clearMouseStatus b s).params = s.params := rfl
@[simp] theorem clearMouseStatus_inputs (b : Byte) (s : State) : (clearMouseStatus b s).inputs = s.inputs := rfl
@[simp] theorem clearMouseStatus_chan (b : Byte) (s : State) (x : Chan) : (clearMouseStatus b s).chan x = s.chan x := by
  cases x <;> rfl
@[simp] theorem clearMouseStatus_out (b : Byte) (s : State) : (clearMouseStatus b s).out = s.out := rfl
@[simp] theorem clearMouseStatus_q (b : Byte) (s : State) : (clearMouseStatus b s).mouse.q = s.mouse.q := rfl
@[simp] theorem clearMouseStatus_writeCmd (b : Byte) (s : State) : (clearMouseStatus b s).mouse.writeCmd = s.mouse.writeCmd := rfl
@[simp] theorem clearMouseStatus_irq (b : Byte) (s : State) : (clearMouseStatus b s).mouse.irq = s.mouse.irq := rfl
@[simp] theorem clearMouseStatus_status (b : Byte) (s : State) : (clearMouseStatus b s).mouse.status = s.mouse.status &&& ~~~b := rfl
@[simp] theorem clearMouseStatus_resolution (b : Byte) (s : State) : (clearMouseStatus b s).mouse.resolution = s.mouse.resolution := rfl
@[simp] theorem clearMouseStatus_sampleRate (b : Byte) (s : State) : (clearMouseStatus b s).mouse.sampleRate = s.mouse.sampleRate := rfl
@[simp] theorem clearMouseStatus_wrap (b : Byte) (s : State) : (clearMouseStatus b s).mouse.wrap = s.mouse.wrap := rfl
@[simp] theorem clearMouseStatus_mtype (b : Byte) (s : State) : (clearMouseStatus b s).mouse.mtype = s.mouse.mtype := rfl
@[simp] theorem clearMouseStatus_detectState (b : Byte) (s : State) : (clearMouseStatus b s).mouse.detectState = s.mouse.detectState := rfl
@[simp] theorem clearMouseStatus_dx (b : Byte) (s : State) : (clearMouseStatus b s).mouse.dx = s.mouse.dx := rfl
@[simp] theorem clearMouseStatus_dy (b : Byte) (s : State) : (clearMouseStatus b s).mouse.dy = s.mouse.dy := rfl
@[simp] theorem clearMouseStatus_dz (b : Byte) (s : State) : (clearMouseStatus b s).mouse.dz = s.mouse.dz := rfl
@[simp] theorem clearMouseStatus_buttons (b : Byte) (s : State) : (clearMouseStatus b s).mouse.buttons = s.mouse.buttons := rfl
@[simp] theorem mouseDefaults_chA (s : State) : (mouseDefaults s).chA = s.chA := rfl
@[simp] theorem mouseDefaults_chB (s : State) : (mouseDefaults s).chB = s.chB := rfl
@[simp] theorem mouseDefaults_kbd (s : State) : (mouseDefaults s).kbd = s.kbd := rfl
@[simp] theorem mouseDefaults_params (s : State) : (mouseDefaults s).params = s.params := rfl
@[simp] theorem mouseDefaults_inputs (s : State) : (mouseDefaults s).inputs = s.inputs := rfl
@[simp] theorem mouseDefaults_chan (s : State) (x : Chan) : (mouseDefaults s).chan x = s.chan x := by
  cases x <;> rfl
@[simp] theorem mouseDefaults_out (s : State) : (mouseDefaults s).out = s.out := rfl
@[simp] theorem mouseDefaults_q (s : State) : (mouseDefaults s).mouse.q = s.mouse.q := rfl
@[simp] theorem mouseDefaults_writeCmd (s : State) : (mouseDefaults s).mouse.writeCmd = s.mouse.writeCmd := rfl
@[simp] theorem mouseDefaults_irq (s : State) : (mouseDefaults s).mouse.irq = s.mouse.irq := rfl
@[simp] theorem mouseDefaults_status (s : State) : (mouseDefaults s).mouse.status = 0x00 := rfl
@[simp] theorem mouseDefaults_resolution (s : State) : (mouseDefaults s).mouse.resolution = 2 := rfl
@[simp] theorem mouseDefaults_sampleRate (s : State) : (mouseDefaults s).mouse.sampleRate = 100 := rfl
@[simp] theorem mouseDefaults_wrap (s : State) : (mouseDefaults s).mouse.wrap = s.mouse.wrap := rfl
@[simp] theorem mouseDefaults_mtype (s : State) : (mouseDefaults s).mouse.mtype = s.mouse.mtype := rfl
@[simp] theorem mouseDefaults_detectState (s : State) : (mouseDefaults s).mouse.detectState = s.mouse.detectState := rfl
@[simp] theorem mouseDefaults_dx (s : State) : (mouseDefaults s).mouse.dx = s.mouse.dx := rfl
@[simp] theorem mouseDefaults_dy (s : State) : (mouseDefaults s).mouse.dy = s.mouse.dy := rfl
@[simp] theorem mouseDefaults_dz (s : State) : (mouseDefaults s).mouse.dz = s.mouse.dz := rfl
@[simp] theorem mouseDefaults_buttons (s : State) : (mouseDefaults s).mouse.buttons = s.mouse.buttons := rfl
@[simp] theorem clearMouse_chA (s : State) : (clearMouse s).chA = s.chA := rfl
@[simp] theorem clearMouse_chB (s : State) : (clearMouse s).chB = s.chB := rfl
@[simp] theorem clearMouse_kbd (s : State) : (clearMouse s).kbd = s.kbd := rfl
@[simp] theorem clearMouse_params (s : State) : (clearMouse s).params = s.params := rfl
@[simp] theorem clearMouse_inputs (s : State) : (clearMouse s).inputs = s.inputs := rfl
@[simp] theorem clearMouse_chan (s : State) (x : Chan) : (clearMouse s).chan x = s.chan x := by
  cases x <;> rfl
@[simp] theorem clearMouse_out (s : State) : (clearMouse s).out = s.out ++ [.mouseIrq false] := rfl
@[simp] theorem clearMouse_q (s : State) : (clearMouse s).mouse.q = s.mouse.q.clear := rfl
@[simp] theorem clearMouse_writeCmd (s : State) : (clearMouse s).mouse.writeCmd = s.mouse.writeCmd := rfl
@[simp] theorem clearMouse_irq (s : State) : (clearMouse s).mouse.irq = false := rfl
@[simp] theorem clearMouse_status (s : State) : (clearMouse s).mouse.status = s.mouse.status := rfl
@[simp] theorem clearMouse_resolution (s : State) : (clearMouse s).mouse.resolution = s.mouse.resolution := rfl
@[simp] theorem clearMouse_sampleRate (s : State) : (clearMouse s).mouse.sampleRate = s.mouse.sampleRate := rfl
@[simp] theorem clearMouse_wrap (s : State) : (clearMouse s).mouse.wrap = s.mouse.wrap := rfl
@[simp] theorem clearMouse_mtype (s : State) : (clearMouse s).mouse.mtype = s.mouse.mtype := rfl
@[simp] theorem clearMouse_detectState (s : State) : (clearMouse s).mouse.detectState = s.mouse.detectState := rfl
@[simp] theorem clearMouse_dx (s : State) : (clearMouse s).mouse.dx = s.mouse.dx := rfl
@[simp] theorem clearMouse_dy (s : State) : (clearMouse s).mouse.dy = s.mouse.dy := rfl
@[simp] theorem clearMouse_dz (s : State) : (clearMouse s).mouse.dz = s.mouse.dz := rfl
@[simp] theorem clearMouse_buttons (s : State) : (clearMouse s).mouse.buttons = s.mouse.buttons := rfl
@[simp] theorem mouseDeviceReset_chA (s : State) : (mouseDeviceReset s).chA = s.chA := rfl
@[simp] theorem mouseDeviceReset_chB (s : State) : (mouseDeviceReset s).chB = s.chB := rfl
@[simp] theorem mouseDeviceReset_kbd (s : State) : (mouseDeviceReset s).kbd = s.kbd := rfl
@[simp] theorem mouseDeviceReset_params (s : State) : (mouseDeviceReset s).params = s.params := rfl
@[simp] theorem mouseDeviceReset_inputs (s : State) : (mouseDeviceReset s).inputs = s.inputs := rfl
@[simp] theorem mouseDeviceReset_chan (s : State) (x : Chan) : (mouseDeviceReset s).chan x = s.chan x := by
  cases x <;> rfl
@[simp] theorem mouseDeviceReset_out (s : State) : (mouseDeviceReset s).out = s.out ++ [.mouseIrq false] := rfl
@[simp] theorem mouseDeviceReset_q (s : State) : (mouseDeviceReset s).mouse.q = s.mouse.q.clear := rfl
@[simp] theorem mouseDeviceReset_writeCmd (s : State) : (mouseDeviceReset s).mouse.writeCmd = none := rfl
@[simp] theorem mouseDeviceReset_irq (s : State) : (mouseDeviceReset s).mouse.irq = false := rfl
@[simp] theorem mouseDeviceReset_status (s : State) : (mouseDeviceReset s).mouse.status = 0x00 := rfl
@[simp] theorem mouseDeviceReset_resolution (s : State) : (mouseDeviceReset s).mouse.resolution = 0x00 := rfl
@[simp] theorem mouseDeviceReset_sampleRate (s : State) : (mouseDeviceReset s).mouse.sampleRate = 0x00 := rfl
@[simp] theorem mouseDeviceReset_wrap (s : State) : (mouseDeviceReset s).mouse.wrap = false := rfl
@[simp] theorem mouseDeviceReset_mtype (s : State) : (mouseDeviceReset s).mouse.mtype = .plain := rfl
@[simp] theorem mouseDeviceReset_detectState (s : State) : (mouseDeviceReset s).mouse.detectState = 0 := rfl
@[simp] theorem mouseDeviceReset_dx (s : State) : (mouseDeviceReset s).mouse.dx = 0 := rfl
@[simp] theorem mouseDeviceReset_dy (s : State) : (mouseDeviceReset s).mouse.dy = 0 := rfl
@[simp] theorem mouseDeviceReset_dz (s : State) : (mouseDeviceReset s).mouse.dz = 0 := rfl
@[simp] theorem mouseDeviceReset_buttons (s : State) : (mouseDeviceReset s).mouse.buttons = 0x00 := rfl

/-! ## Power-on (70 R396) -/

section PowerOn

variable (k : Nat) (hz : ℕ+) (role : Chan → Role) (disabled : Chan → Bool)

@[simp] theorem powerOn_chan (c : Chan) :
    (State.powerOn k hz role disabled).chan c = Channel.reset (role c) (disabled c) := by cases c <;> rfl

@[simp] theorem powerOn_kbd : (State.powerOn k hz role disabled).kbd = Keyboard.reset := rfl

@[simp] theorem powerOn_mouse : (State.powerOn k hz role disabled).mouse = Mouse.reset := rfl

@[simp] theorem powerOn_params :
    (State.powerOn k hz role disabled).params = { itShift := k, clockHz := hz } := rfl

@[simp] theorem powerOn_inputs : (State.powerOn k hz role disabled).inputs = [] := rfl

@[simp] theorem powerOn_out : (State.powerOn k hz role disabled).out = [] := rfl

/-- The state after reset is power-on under the open parameters (log 4). -/
theorem reset_eq_powerOn :
    State.reset = State.powerOn Config.itShift Config.clockHz Config.role Config.disabled := rfl

end PowerOn

end Sys2Proof.Machine
end

