-- ==== Sys2Proof/Laws/Arbiter.lean ====
section
/-! SUPPORT. What each shared operation can do, said once: the arbiter's protocols (spec/60_exceptions.md R346
to R350), the queue of a channel (43 R202), the PS/2 queues and their lines (60 R357), packets (46 R312,
R313). Later proofs cite these instead of unfolding the operations. -/

namespace Sys2Proof.Machine

/-! ## Vector and pending registers -/

theorem setVector_chan (s : State) (c x : Chan) (v : Byte) :
    (s.setVector c v).chan x = if x = c.sib then (s.chan x).setRR 2 v else s.chan x := by
  cases c <;> cases x <;> rfl

theorem setPendingBits_chan (s : State) (x : Chan) (b : Byte) :
    (s.setPendingBits b).chan x =
      if x = .A then (s.chan x).setRR 3 ((s.chan x).rr[3] ||| b) else s.chan x := by
  cases x <;> rfl

theorem clearPendingBits_chan (s : State) (x : Chan) (b : Byte) :
    (s.clearPendingBits b).chan x =
      if x = .A then (s.chan x).setRR 3 ((s.chan x).rr[3] &&& ~~~b) else s.chan x := by
  cases x <;> rfl

@[simp] theorem setVector_sel (s : State) (c : Chan) (v : Byte) (x : Chan) :
    ((s.setVector c v).chan x).sel = (s.chan x).sel := by cases c <;> cases x <;> rfl
@[simp] theorem setVector_wr (s : State) (c : Chan) (v : Byte) (x : Chan) :
    ((s.setVector c v).chan x).wr = (s.chan x).wr := by cases c <;> cases x <;> rfl
@[simp] theorem setVector_rxPending (s : State) (c : Chan) (v : Byte) (x : Chan) :
    ((s.setVector c v).chan x).rxPending = (s.chan x).rxPending := by cases c <;> cases x <;> rfl
@[simp] theorem setVector_txPending (s : State) (c : Chan) (v : Byte) (x : Chan) :
    ((s.setVector c v).chan x).txPending = (s.chan x).txPending := by cases c <;> cases x <;> rfl
@[simp] theorem setVector_rxIUS (s : State) (c : Chan) (v : Byte) (x : Chan) :
    ((s.setVector c v).chan x).rxIUS = (s.chan x).rxIUS := by cases c <;> cases x <;> rfl
@[simp] theorem setVector_txIUS (s : State) (c : Chan) (v : Byte) (x : Chan) :
    ((s.setVector c v).chan x).txIUS = (s.chan x).txIUS := by cases c <;> cases x <;> rfl
@[simp] theorem setVector_q (s : State) (c : Chan) (v : Byte) (x : Chan) :
    ((s.setVector c v).chan x).q = (s.chan x).q := by cases c <;> cases x <;> rfl
@[simp] theorem setVector_rx (s : State) (c : Chan) (v : Byte) (x : Chan) :
    ((s.setVector c v).chan x).rx = (s.chan x).rx := by cases c <;> cases x <;> rfl
@[simp] theorem setVector_tx (s : State) (c : Chan) (v : Byte) (x : Chan) :
    ((s.setVector c v).chan x).tx = (s.chan x).tx := by cases c <;> cases x <;> rfl
@[simp] theorem setVector_capsPhase (s : State) (c : Chan) (v : Byte) (x : Chan) :
    ((s.setVector c v).chan x).capsPhase = (s.chan x).capsPhase := by cases c <;> cases x <;> rfl
@[simp] theorem setVector_numPhase (s : State) (c : Chan) (v : Byte) (x : Chan) :
    ((s.setVector c v).chan x).numPhase = (s.chan x).numPhase := by cases c <;> cases x <;> rfl
@[simp] theorem setVector_ledLatch (s : State) (c : Chan) (v : Byte) (x : Chan) :
    ((s.setVector c v).chan x).ledLatch = (s.chan x).ledLatch := by cases c <;> cases x <;> rfl
@[simp] theorem setVector_role (s : State) (c : Chan) (v : Byte) (x : Chan) :
    ((s.setVector c v).chan x).role = (s.chan x).role := by cases c <;> cases x <;> rfl
@[simp] theorem setVector_disabled (s : State) (c : Chan) (v : Byte) (x : Chan) :
    ((s.setVector c v).chan x).disabled = (s.chan x).disabled := by cases c <;> cases x <;> rfl
@[simp] theorem setVector_kbd_state (s : State) (c : Chan) (v : Byte) : (s.setVector c v).kbd = s.kbd := by
  cases c <;> rfl
@[simp] theorem setVector_mouse_state (s : State) (c : Chan) (v : Byte) : (s.setVector c v).mouse = s.mouse := by
  cases c <;> rfl
@[simp] theorem setVector_params_state (s : State) (c : Chan) (v : Byte) : (s.setVector c v).params = s.params := by
  cases c <;> rfl
@[simp] theorem setVector_inputs_state (s : State) (c : Chan) (v : Byte) : (s.setVector c v).inputs = s.inputs := by
  cases c <;> rfl
@[simp] theorem setVector_out_state (s : State) (c : Chan) (v : Byte) : (s.setVector c v).out = s.out := by
  cases c <;> rfl
@[simp] theorem setPendingBits_sel (s : State) (b : Byte) (x : Chan) :
    ((s.setPendingBits b).chan x).sel = (s.chan x).sel := by cases x <;> rfl
@[simp] theorem setPendingBits_wr (s : State) (b : Byte) (x : Chan) :
    ((s.setPendingBits b).chan x).wr = (s.chan x).wr := by cases x <;> rfl
@[simp] theorem setPendingBits_rxPending (s : State) (b : Byte) (x : Chan) :
    ((s.setPendingBits b).chan x).rxPending = (s.chan x).rxPending := by cases x <;> rfl
@[simp] theorem setPendingBits_txPending (s : State) (b : Byte) (x : Chan) :
    ((s.setPendingBits b).chan x).txPending = (s.chan x).txPending := by cases x <;> rfl
@[simp] theorem setPendingBits_rxIUS (s : State) (b : Byte) (x : Chan) :
    ((s.setPendingBits b).chan x).rxIUS = (s.chan x).rxIUS := by cases x <;> rfl
@[simp] theorem setPendingBits_txIUS (s : State) (b : Byte) (x : Chan) :
    ((s.setPendingBits b).chan x).txIUS = (s.chan x).txIUS := by cases x <;> rfl
@[simp] theorem setPendingBits_q (s : State) (b : Byte) (x : Chan) :
    ((s.setPendingBits b).chan x).q = (s.chan x).q := by cases x <;> rfl
@[simp] theorem setPendingBits_rx (s : State) (b : Byte) (x : Chan) :
    ((s.setPendingBits b).chan x).rx = (s.chan x).rx := by cases x <;> rfl
@[simp] theorem setPendingBits_tx (s : State) (b : Byte) (x : Chan) :
    ((s.setPendingBits b).chan x).tx = (s.chan x).tx := by cases x <;> rfl
@[simp] theorem setPendingBits_capsPhase (s : State) (b : Byte) (x : Chan) :
    ((s.setPendingBits b).chan x).capsPhase = (s.chan x).capsPhase := by cases x <;> rfl
@[simp] theorem setPendingBits_numPhase (s : State) (b : Byte) (x : Chan) :
    ((s.setPendingBits b).chan x).numPhase = (s.chan x).numPhase := by cases x <;> rfl
@[simp] theorem setPendingBits_ledLatch (s : State) (b : Byte) (x : Chan) :
    ((s.setPendingBits b).chan x).ledLatch = (s.chan x).ledLatch := by cases x <;> rfl
@[simp] theorem setPendingBits_role (s : State) (b : Byte) (x : Chan) :
    ((s.setPendingBits b).chan x).role = (s.chan x).role := by cases x <;> rfl
@[simp] theorem setPendingBits_disabled (s : State) (b : Byte) (x : Chan) :
    ((s.setPendingBits b).chan x).disabled = (s.chan x).disabled := by cases x <;> rfl
@[simp] theorem setPendingBits_kbd_state (s : State) (b : Byte) : (s.setPendingBits b).kbd = s.kbd := by
  rfl
@[simp] theorem setPendingBits_mouse_state (s : State) (b : Byte) : (s.setPendingBits b).mouse = s.mouse := by
  rfl
@[simp] theorem setPendingBits_params_state (s : State) (b : Byte) : (s.setPendingBits b).params = s.params := by
  rfl
@[simp] theorem setPendingBits_inputs_state (s : State) (b : Byte) : (s.setPendingBits b).inputs = s.inputs := by
  rfl
@[simp] theorem setPendingBits_out_state (s : State) (b : Byte) : (s.setPendingBits b).out = s.out := by
  rfl
@[simp] theorem clearPendingBits_sel (s : State) (b : Byte) (x : Chan) :
    ((s.clearPendingBits b).chan x).sel = (s.chan x).sel := by cases x <;> rfl
@[simp] theorem clearPendingBits_wr (s : State) (b : Byte) (x : Chan) :
    ((s.clearPendingBits b).chan x).wr = (s.chan x).wr := by cases x <;> rfl
@[simp] theorem clearPendingBits_rxPending (s : State) (b : Byte) (x : Chan) :
    ((s.clearPendingBits b).chan x).rxPending = (s.chan x).rxPending := by cases x <;> rfl
@[simp] theorem clearPendingBits_txPending (s : State) (b : Byte) (x : Chan) :
    ((s.clearPendingBits b).chan x).txPending = (s.chan x).txPending := by cases x <;> rfl
@[simp] theorem clearPendingBits_rxIUS (s : State) (b : Byte) (x : Chan) :
    ((s.clearPendingBits b).chan x).rxIUS = (s.chan x).rxIUS := by cases x <;> rfl
@[simp] theorem clearPendingBits_txIUS (s : State) (b : Byte) (x : Chan) :
    ((s.clearPendingBits b).chan x).txIUS = (s.chan x).txIUS := by cases x <;> rfl
@[simp] theorem clearPendingBits_q (s : State) (b : Byte) (x : Chan) :
    ((s.clearPendingBits b).chan x).q = (s.chan x).q := by cases x <;> rfl
@[simp] theorem clearPendingBits_rx (s : State) (b : Byte) (x : Chan) :
    ((s.clearPendingBits b).chan x).rx = (s.chan x).rx := by cases x <;> rfl
@[simp] theorem clearPendingBits_tx (s : State) (b : Byte) (x : Chan) :
    ((s.clearPendingBits b).chan x).tx = (s.chan x).tx := by cases x <;> rfl
@[simp] theorem clearPendingBits_capsPhase (s : State) (b : Byte) (x : Chan) :
    ((s.clearPendingBits b).chan x).capsPhase = (s.chan x).capsPhase := by cases x <;> rfl
@[simp] theorem clearPendingBits_numPhase (s : State) (b : Byte) (x : Chan) :
    ((s.clearPendingBits b).chan x).numPhase = (s.chan x).numPhase := by cases x <;> rfl
@[simp] theorem clearPendingBits_ledLatch (s : State) (b : Byte) (x : Chan) :
    ((s.clearPendingBits b).chan x).ledLatch = (s.chan x).ledLatch := by cases x <;> rfl
@[simp] theorem clearPendingBits_role (s : State) (b : Byte) (x : Chan) :
    ((s.clearPendingBits b).chan x).role = (s.chan x).role := by cases x <;> rfl
@[simp] theorem clearPendingBits_disabled (s : State) (b : Byte) (x : Chan) :
    ((s.clearPendingBits b).chan x).disabled = (s.chan x).disabled := by cases x <;> rfl
@[simp] theorem clearPendingBits_kbd_state (s : State) (b : Byte) : (s.clearPendingBits b).kbd = s.kbd := by
  rfl
@[simp] theorem clearPendingBits_mouse_state (s : State) (b : Byte) : (s.clearPendingBits b).mouse = s.mouse := by
  rfl
@[simp] theorem clearPendingBits_params_state (s : State) (b : Byte) : (s.clearPendingBits b).params = s.params := by
  rfl
@[simp] theorem clearPendingBits_inputs_state (s : State) (b : Byte) : (s.clearPendingBits b).inputs = s.inputs := by
  rfl
@[simp] theorem clearPendingBits_out_state (s : State) (b : Byte) : (s.clearPendingBits b).out = s.out := by
  rfl

/-! ## The arbiter: what each protocol leaves unchanged -/

@[simp] theorem setRx_sel (s : State) (c x : Chan) :
    ((setRx c s).chan x).sel = (s.chan x).sel := by cases c <;> cases x <;> rfl
@[simp] theorem setRx_wr (s : State) (c x : Chan) :
    ((setRx c s).chan x).wr = (s.chan x).wr := by cases c <;> cases x <;> rfl
@[simp] theorem setRx_q (s : State) (c x : Chan) :
    ((setRx c s).chan x).q = (s.chan x).q := by cases c <;> cases x <;> rfl
@[simp] theorem setRx_rx (s : State) (c x : Chan) :
    ((setRx c s).chan x).rx = (s.chan x).rx := by cases c <;> cases x <;> rfl
@[simp] theorem setRx_tx (s : State) (c x : Chan) :
    ((setRx c s).chan x).tx = (s.chan x).tx := by cases c <;> cases x <;> rfl
@[simp] theorem setRx_capsPhase (s : State) (c x : Chan) :
    ((setRx c s).chan x).capsPhase = (s.chan x).capsPhase := by cases c <;> cases x <;> rfl
@[simp] theorem setRx_numPhase (s : State) (c x : Chan) :
    ((setRx c s).chan x).numPhase = (s.chan x).numPhase := by cases c <;> cases x <;> rfl
@[simp] theorem setRx_ledLatch (s : State) (c x : Chan) :
    ((setRx c s).chan x).ledLatch = (s.chan x).ledLatch := by cases c <;> cases x <;> rfl
@[simp] theorem setRx_role (s : State) (c x : Chan) :
    ((setRx c s).chan x).role = (s.chan x).role := by cases c <;> cases x <;> rfl
@[simp] theorem setRx_disabled (s : State) (c x : Chan) :
    ((setRx c s).chan x).disabled = (s.chan x).disabled := by cases c <;> cases x <;> rfl
@[simp] theorem setRx_kbd (s : State) (c : Chan) : (setRx c s).kbd = s.kbd := by cases c <;> rfl
@[simp] theorem setRx_mouse (s : State) (c : Chan) : (setRx c s).mouse = s.mouse := by cases c <;> rfl
@[simp] theorem setRx_params (s : State) (c : Chan) : (setRx c s).params = s.params := by cases c <;> rfl
@[simp] theorem setRx_inputs (s : State) (c : Chan) : (setRx c s).inputs = s.inputs := by cases c <;> rfl
@[simp] theorem setRx_out (s : State) (c : Chan) : (setRx c s).out = s.out := by cases c <;> rfl
@[simp] theorem setTx_sel (s : State) (c x : Chan) :
    ((setTx c s).chan x).sel = (s.chan x).sel := by 
  unfold setTx; dsimp only; split <;> cases c <;> cases x <;> rfl
@[simp] theorem setTx_wr (s : State) (c x : Chan) :
    ((setTx c s).chan x).wr = (s.chan x).wr := by 
  unfold setTx; dsimp only; split <;> cases c <;> cases x <;> rfl
@[simp] theorem setTx_q (s : State) (c x : Chan) :
    ((setTx c s).chan x).q = (s.chan x).q := by 
  unfold setTx; dsimp only; split <;> cases c <;> cases x <;> rfl
@[simp] theorem setTx_rx (s : State) (c x : Chan) :
    ((setTx c s).chan x).rx = (s.chan x).rx := by 
  unfold setTx; dsimp only; split <;> cases c <;> cases x <;> rfl
@[simp] theorem setTx_tx (s : State) (c x : Chan) :
    ((setTx c s).chan x).tx = (s.chan x).tx := by 
  unfold setTx; dsimp only; split <;> cases c <;> cases x <;> rfl
@[simp] theorem setTx_capsPhase (s : State) (c x : Chan) :
    ((setTx c s).chan x).capsPhase = (s.chan x).capsPhase := by 
  unfold setTx; dsimp only; split <;> cases c <;> cases x <;> rfl
@[simp] theorem setTx_numPhase (s : State) (c x : Chan) :
    ((setTx c s).chan x).numPhase = (s.chan x).numPhase := by 
  unfold setTx; dsimp only; split <;> cases c <;> cases x <;> rfl
@[simp] theorem setTx_ledLatch (s : State) (c x : Chan) :
    ((setTx c s).chan x).ledLatch = (s.chan x).ledLatch := by 
  unfold setTx; dsimp only; split <;> cases c <;> cases x <;> rfl
@[simp] theorem setTx_role (s : State) (c x : Chan) :
    ((setTx c s).chan x).role = (s.chan x).role := by 
  unfold setTx; dsimp only; split <;> cases c <;> cases x <;> rfl
@[simp] theorem setTx_disabled (s : State) (c x : Chan) :
    ((setTx c s).chan x).disabled = (s.chan x).disabled := by 
  unfold setTx; dsimp only; split <;> cases c <;> cases x <;> rfl
@[simp] theorem setTx_kbd (s : State) (c : Chan) : (setTx c s).kbd = s.kbd := by 
  unfold setTx; dsimp only; split <;> cases c <;> rfl
@[simp] theorem setTx_mouse (s : State) (c : Chan) : (setTx c s).mouse = s.mouse := by 
  unfold setTx; dsimp only; split <;> cases c <;> rfl
@[simp] theorem setTx_params (s : State) (c : Chan) : (setTx c s).params = s.params := by 
  unfold setTx; dsimp only; split <;> cases c <;> rfl
@[simp] theorem setTx_inputs (s : State) (c : Chan) : (setTx c s).inputs = s.inputs := by 
  unfold setTx; dsimp only; split <;> cases c <;> rfl
@[simp] theorem setTx_out (s : State) (c : Chan) : (setTx c s).out = s.out := by 
  unfold setTx; dsimp only; split <;> cases c <;> rfl
@[simp] theorem clearRx_sel (s : State) (c x : Chan) :
    ((clearRx c s).chan x).sel = (s.chan x).sel := by 
  unfold clearRx; dsimp only; repeat' split
  all_goals first | rfl | (simp only [setTx_sel]; cases c <;> cases x <;> rfl) | (cases c <;> cases x <;> rfl)
@[simp] theorem clearRx_wr (s : State) (c x : Chan) :
    ((clearRx c s).chan x).wr = (s.chan x).wr := by 
  unfold clearRx; dsimp only; repeat' split
  all_goals first | rfl | (simp only [setTx_wr]; cases c <;> cases x <;> rfl) | (cases c <;> cases x <;> rfl)
@[simp] theorem clearRx_q (s : State) (c x : Chan) :
    ((clearRx c s).chan x).q = (s.chan x).q := by 
  unfold clearRx; dsimp only; repeat' split
  all_goals first | rfl | (simp only [setTx_q]; cases c <;> cases x <;> rfl) | (cases c <;> cases x <;> rfl)
@[simp] theorem clearRx_rx (s : State) (c x : Chan) :
    ((clearRx c s).chan x).rx = (s.chan x).rx := by 
  unfold clearRx; dsimp only; repeat' split
  all_goals first | rfl | (simp only [setTx_rx]; cases c <;> cases x <;> rfl) | (cases c <;> cases x <;> rfl)
@[simp] theorem clearRx_tx (s : State) (c x : Chan) :
    ((clearRx c s).chan x).tx = (s.chan x).tx := by 
  unfold clearRx; dsimp only; repeat' split
  all_goals first | rfl | (simp only [setTx_tx]; cases c <;> cases x <;> rfl) | (cases c <;> cases x <;> rfl)
@[simp] theorem clearRx_capsPhase (s : State) (c x : Chan) :
    ((clearRx c s).chan x).capsPhase = (s.chan x).capsPhase := by 
  unfold clearRx; dsimp only; repeat' split
  all_goals first | rfl | (simp only [setTx_capsPhase]; cases c <;> cases x <;> rfl) | (cases c <;> cases x <;> rfl)
@[simp] theorem clearRx_numPhase (s : State) (c x : Chan) :
    ((clearRx c s).chan x).numPhase = (s.chan x).numPhase := by 
  unfold clearRx; dsimp only; repeat' split
  all_goals first | rfl | (simp only [setTx_numPhase]; cases c <;> cases x <;> rfl) | (cases c <;> cases x <;> rfl)
@[simp] theorem clearRx_ledLatch (s : State) (c x : Chan) :
    ((clearRx c s).chan x).ledLatch = (s.chan x).ledLatch := by 
  unfold clearRx; dsimp only; repeat' split
  all_goals first | rfl | (simp only [setTx_ledLatch]; cases c <;> cases x <;> rfl) | (cases c <;> cases x <;> rfl)
@[simp] theorem clearRx_role (s : State) (c x : Chan) :
    ((clearRx c s).chan x).role = (s.chan x).role := by 
  unfold clearRx; dsimp only; repeat' split
  all_goals first | rfl | (simp only [setTx_role]; cases c <;> cases x <;> rfl) | (cases c <;> cases x <;> rfl)
@[simp] theorem clearRx_disabled (s : State) (c x : Chan) :
    ((clearRx c s).chan x).disabled = (s.chan x).disabled := by 
  unfold clearRx; dsimp only; repeat' split
  all_goals first | rfl | (simp only [setTx_disabled]; cases c <;> cases x <;> rfl) | (cases c <;> cases x <;> rfl)
@[simp] theorem clearRx_kbd (s : State) (c : Chan) : (clearRx c s).kbd = s.kbd := by 
  unfold clearRx; dsimp only; repeat' split
  all_goals first | rfl | (simp only [setTx_kbd]; cases c <;> rfl) | (cases c <;> rfl)
@[simp] theorem clearRx_mouse (s : State) (c : Chan) : (clearRx c s).mouse = s.mouse := by 
  unfold clearRx; dsimp only; repeat' split
  all_goals first | rfl | (simp only [setTx_mouse]; cases c <;> rfl) | (cases c <;> rfl)
@[simp] theorem clearRx_params (s : State) (c : Chan) : (clearRx c s).params = s.params := by 
  unfold clearRx; dsimp only; repeat' split
  all_goals first | rfl | (simp only [setTx_params]; cases c <;> rfl) | (cases c <;> rfl)
@[simp] theorem clearRx_inputs (s : State) (c : Chan) : (clearRx c s).inputs = s.inputs := by 
  unfold clearRx; dsimp only; repeat' split
  all_goals first | rfl | (simp only [setTx_inputs]; cases c <;> rfl) | (cases c <;> rfl)
@[simp] theorem clearRx_out (s : State) (c : Chan) : (clearRx c s).out = s.out := by 
  unfold clearRx; dsimp only; repeat' split
  all_goals first | rfl | (simp only [setTx_out]; cases c <;> rfl) | (cases c <;> rfl)
@[simp] theorem clearTx_sel (s : State) (c x : Chan) :
    ((clearTx c s).chan x).sel = (s.chan x).sel := by 
  unfold clearTx; dsimp only; repeat' split
  all_goals first | rfl | (simp only [setRx_sel]; cases c <;> cases x <;> rfl) | (cases c <;> cases x <;> rfl)
@[simp] theorem clearTx_wr (s : State) (c x : Chan) :
    ((clearTx c s).chan x).wr = (s.chan x).wr := by 
  unfold clearTx; dsimp only; repeat' split
  all_goals first | rfl | (simp only [setRx_wr]; cases c <;> cases x <;> rfl) | (cases c <;> cases x <;> rfl)
@[simp] theorem clearTx_q (s : State) (c x : Chan) :
    ((clearTx c s).chan x).q = (s.chan x).q := by 
  unfold clearTx; dsimp only; repeat' split
  all_goals first | rfl | (simp only [setRx_q]; cases c <;> cases x <;> rfl) | (cases c <;> cases x <;> rfl)
@[simp] theorem clearTx_rx (s : State) (c x : Chan) :
    ((clearTx c s).chan x).rx = (s.chan x).rx := by 
  unfold clearTx; dsimp only; repeat' split
  all_goals first | rfl | (simp only [setRx_rx]; cases c <;> cases x <;> rfl) | (cases c <;> cases x <;> rfl)
@[simp] theorem clearTx_tx (s : State) (c x : Chan) :
    ((clearTx c s).chan x).tx = (s.chan x).tx := by 
  unfold clearTx; dsimp only; repeat' split
  all_goals first | rfl | (simp only [setRx_tx]; cases c <;> cases x <;> rfl) | (cases c <;> cases x <;> rfl)
@[simp] theorem clearTx_capsPhase (s : State) (c x : Chan) :
    ((clearTx c s).chan x).capsPhase = (s.chan x).capsPhase := by 
  unfold clearTx; dsimp only; repeat' split
  all_goals first | rfl | (simp only [setRx_capsPhase]; cases c <;> cases x <;> rfl) | (cases c <;> cases x <;> rfl)
@[simp] theorem clearTx_numPhase (s : State) (c x : Chan) :
    ((clearTx c s).chan x).numPhase = (s.chan x).numPhase := by 
  unfold clearTx; dsimp only; repeat' split
  all_goals first | rfl | (simp only [setRx_numPhase]; cases c <;> cases x <;> rfl) | (cases c <;> cases x <;> rfl)
@[simp] theorem clearTx_ledLatch (s : State) (c x : Chan) :
    ((clearTx c s).chan x).ledLatch = (s.chan x).ledLatch := by 
  unfold clearTx; dsimp only; repeat' split
  all_goals first | rfl | (simp only [setRx_ledLatch]; cases c <;> cases x <;> rfl) | (cases c <;> cases x <;> rfl)
@[simp] theorem clearTx_role (s : State) (c x : Chan) :
    ((clearTx c s).chan x).role = (s.chan x).role := by 
  unfold clearTx; dsimp only; repeat' split
  all_goals first | rfl | (simp only [setRx_role]; cases c <;> cases x <;> rfl) | (cases c <;> cases x <;> rfl)
@[simp] theorem clearTx_disabled (s : State) (c x : Chan) :
    ((clearTx c s).chan x).disabled = (s.chan x).disabled := by 
  unfold clearTx; dsimp only; repeat' split
  all_goals first | rfl | (simp only [setRx_disabled]; cases c <;> cases x <;> rfl) | (cases c <;> cases x <;> rfl)
@[simp] theorem clearTx_kbd (s : State) (c : Chan) : (clearTx c s).kbd = s.kbd := by 
  unfold clearTx; dsimp only; repeat' split
  all_goals first | rfl | (simp only [setRx_kbd]; cases c <;> rfl) | (cases c <;> rfl)
@[simp] theorem clearTx_mouse (s : State) (c : Chan) : (clearTx c s).mouse = s.mouse := by 
  unfold clearTx; dsimp only; repeat' split
  all_goals first | rfl | (simp only [setRx_mouse]; cases c <;> rfl) | (cases c <;> rfl)
@[simp] theorem clearTx_params (s : State) (c : Chan) : (clearTx c s).params = s.params := by 
  unfold clearTx; dsimp only; repeat' split
  all_goals first | rfl | (simp only [setRx_params]; cases c <;> rfl) | (cases c <;> rfl)
@[simp] theorem clearTx_inputs (s : State) (c : Chan) : (clearTx c s).inputs = s.inputs := by 
  unfold clearTx; dsimp only; repeat' split
  all_goals first | rfl | (simp only [setRx_inputs]; cases c <;> rfl) | (cases c <;> rfl)
@[simp] theorem clearTx_out (s : State) (c : Chan) : (clearTx c s).out = s.out := by 
  unfold clearTx; dsimp only; repeat' split
  all_goals first | rfl | (simp only [setRx_out]; cases c <;> rfl) | (cases c <;> rfl)
@[simp] theorem clearIUS_sel (s : State) (c x : Chan) :
    ((clearIUS c s).chan x).sel = (s.chan x).sel := by 
  unfold clearIUS; dsimp only; repeat' split
  all_goals first | rfl | (simp only [setTx_sel]; cases c <;> cases x <;> rfl) | (cases c <;> cases x <;> rfl)
@[simp] theorem clearIUS_wr (s : State) (c x : Chan) :
    ((clearIUS c s).chan x).wr = (s.chan x).wr := by 
  unfold clearIUS; dsimp only; repeat' split
  all_goals first | rfl | (simp only [setTx_wr]; cases c <;> cases x <;> rfl) | (cases c <;> cases x <;> rfl)
@[simp] theorem clearIUS_q (s : State) (c x : Chan) :
    ((clearIUS c s).chan x).q = (s.chan x).q := by 
  unfold clearIUS; dsimp only; repeat' split
  all_goals first | rfl | (simp only [setTx_q]; cases c <;> cases x <;> rfl) | (cases c <;> cases x <;> rfl)
@[simp] theorem clearIUS_rx (s : State) (c x : Chan) :
    ((clearIUS c s).chan x).rx = (s.chan x).rx := by 
  unfold clearIUS; dsimp only; repeat' split
  all_goals first | rfl | (simp only [setTx_rx]; cases c <;> cases x <;> rfl) | (cases c <;> cases x <;> rfl)
@[simp] theorem clearIUS_tx (s : State) (c x : Chan) :
    ((clearIUS c s).chan x).tx = (s.chan x).tx := by 
  unfold clearIUS; dsimp only; repeat' split
  all_goals first | rfl | (simp only [setTx_tx]; cases c <;> cases x <;> rfl) | (cases c <;> cases x <;> rfl)
@[simp] theorem clearIUS_capsPhase (s : State) (c x : Chan) :
    ((clearIUS c s).chan x).capsPhase = (s.chan x).capsPhase := by 
  unfold clearIUS; dsimp only; repeat' split
  all_goals first | rfl | (simp only [setTx_capsPhase]; cases c <;> cases x <;> rfl) | (cases c <;> cases x <;> rfl)
@[simp] theorem clearIUS_numPhase (s : State) (c x : Chan) :
    ((clearIUS c s).chan x).numPhase = (s.chan x).numPhase := by 
  unfold clearIUS; dsimp only; repeat' split
  all_goals first | rfl | (simp only [setTx_numPhase]; cases c <;> cases x <;> rfl) | (cases c <;> cases x <;> rfl)
@[simp] theorem clearIUS_ledLatch (s : State) (c x : Chan) :
    ((clearIUS c s).chan x).ledLatch = (s.chan x).ledLatch := by 
  unfold clearIUS; dsimp only; repeat' split
  all_goals first | rfl | (simp only [setTx_ledLatch]; cases c <;> cases x <;> rfl) | (cases c <;> cases x <;> rfl)
@[simp] theorem clearIUS_role (s : State) (c x : Chan) :
    ((clearIUS c s).chan x).role = (s.chan x).role := by 
  unfold clearIUS; dsimp only; repeat' split
  all_goals first | rfl | (simp only [setTx_role]; cases c <;> cases x <;> rfl) | (cases c <;> cases x <;> rfl)
@[simp] theorem clearIUS_disabled (s : State) (c x : Chan) :
    ((clearIUS c s).chan x).disabled = (s.chan x).disabled := by 
  unfold clearIUS; dsimp only; repeat' split
  all_goals first | rfl | (simp only [setTx_disabled]; cases c <;> cases x <;> rfl) | (cases c <;> cases x <;> rfl)
@[simp] theorem clearIUS_kbd (s : State) (c : Chan) : (clearIUS c s).kbd = s.kbd := by 
  unfold clearIUS; dsimp only; repeat' split
  all_goals first | rfl | (simp only [setTx_kbd]; cases c <;> rfl) | (cases c <;> rfl)
@[simp] theorem clearIUS_mouse (s : State) (c : Chan) : (clearIUS c s).mouse = s.mouse := by 
  unfold clearIUS; dsimp only; repeat' split
  all_goals first | rfl | (simp only [setTx_mouse]; cases c <;> rfl) | (cases c <;> rfl)
@[simp] theorem clearIUS_params (s : State) (c : Chan) : (clearIUS c s).params = s.params := by 
  unfold clearIUS; dsimp only; repeat' split
  all_goals first | rfl | (simp only [setTx_params]; cases c <;> rfl) | (cases c <;> rfl)
@[simp] theorem clearIUS_inputs (s : State) (c : Chan) : (clearIUS c s).inputs = s.inputs := by 
  unfold clearIUS; dsimp only; repeat' split
  all_goals first | rfl | (simp only [setTx_inputs]; cases c <;> rfl) | (cases c <;> rfl)
@[simp] theorem clearIUS_out (s : State) (c : Chan) : (clearIUS c s).out = s.out := by 
  unfold clearIUS; dsimp only; repeat' split
  all_goals first | rfl | (simp only [setTx_out]; cases c <;> rfl) | (cases c <;> rfl)

/-! ## The arbiter: flags -/

@[simp] theorem setRx_rxPending (s : State) (c x : Chan) :
    ((setRx c s).chan x).rxPending = if x = c then true else (s.chan x).rxPending := by
  cases c <;> cases x <;> rfl
@[simp] theorem setRx_rxIUS (s : State) (c x : Chan) :
    ((setRx c s).chan x).rxIUS = if x = c then true else (s.chan x).rxIUS := by
  cases c <;> cases x <;> rfl
@[simp] theorem setRx_txPending (s : State) (c x : Chan) :
    ((setRx c s).chan x).txPending = (s.chan x).txPending := by cases c <;> cases x <;> rfl
@[simp] theorem setRx_txIUS (s : State) (c x : Chan) :
    ((setRx c s).chan x).txIUS = (s.chan x).txIUS := by cases c <;> cases x <;> rfl

@[simp] theorem setTx_rxPending (s : State) (c x : Chan) :
    ((setTx c s).chan x).rxPending = (s.chan x).rxPending := by
  unfold setTx; dsimp only; split <;> cases c <;> cases x <;> rfl
@[simp] theorem setTx_rxIUS (s : State) (c x : Chan) :
    ((setTx c s).chan x).rxIUS = (s.chan x).rxIUS := by
  unfold setTx; dsimp only; split <;> cases c <;> cases x <;> rfl
@[simp] theorem setTx_txPending (s : State) (c x : Chan) :
    ((setTx c s).chan x).txPending = if x = c then true else (s.chan x).txPending := by
  unfold setTx; dsimp only; split <;> cases c <;> cases x <;> rfl
@[simp] theorem setTx_txIUS (s : State) (c x : Chan) :
    ((setTx c s).chan x).txIUS =
      if x = c then (!(s.chan c).rxIUS || (s.chan c).txIUS) else (s.chan x).txIUS := by
  unfold setTx
  dsimp only
  split <;> by_cases hx : x = c <;> simp_all [chan_modChan]

@[simp] theorem clearRx_rxPending (s : State) (c x : Chan) :
    ((clearRx c s).chan x).rxPending = if x = c then false else (s.chan x).rxPending := by
  unfold clearRx
  dsimp only
  split <;> by_cases hx : x = c <;> simp_all [chan_modChan]
@[simp] theorem clearRx_rxIUS (s : State) (c x : Chan) :
    ((clearRx c s).chan x).rxIUS = if x = c then false else (s.chan x).rxIUS := by
  unfold clearRx
  dsimp only
  split <;> by_cases hx : x = c <;> simp_all [chan_modChan]
@[simp] theorem clearRx_txPending (s : State) (c x : Chan) :
    ((clearRx c s).chan x).txPending = (s.chan x).txPending := by
  unfold clearRx
  dsimp only
  split <;> by_cases hx : x = c <;> simp_all [chan_modChan]
@[simp] theorem clearRx_txIUS (s : State) (c x : Chan) :
    ((clearRx c s).chan x).txIUS =
      if x = c then ((s.chan c).txPending || (s.chan c).txIUS) else (s.chan x).txIUS := by
  unfold clearRx
  dsimp only
  split <;> by_cases hx : x = c <;> simp_all [chan_modChan]

@[simp] theorem clearTx_rxPending (s : State) (c x : Chan) :
    ((clearTx c s).chan x).rxPending = (s.chan x).rxPending := by
  unfold clearTx
  dsimp only
  split <;> by_cases hx : x = c <;> simp_all [chan_modChan]
@[simp] theorem clearTx_rxIUS (s : State) (c x : Chan) :
    ((clearTx c s).chan x).rxIUS =
      if x = c then ((s.chan c).rxPending || (s.chan c).rxIUS) else (s.chan x).rxIUS := by
  unfold clearTx
  dsimp only
  split <;> by_cases hx : x = c <;> simp_all [chan_modChan]
@[simp] theorem clearTx_txPending (s : State) (c x : Chan) :
    ((clearTx c s).chan x).txPending = if x = c then false else (s.chan x).txPending := by
  unfold clearTx
  dsimp only
  split <;> by_cases hx : x = c <;> simp_all [chan_modChan]
@[simp] theorem clearTx_txIUS (s : State) (c x : Chan) :
    ((clearTx c s).chan x).txIUS = if x = c then false else (s.chan x).txIUS := by
  unfold clearTx
  dsimp only
  split <;> by_cases hx : x = c <;> simp_all [chan_modChan]

@[simp] theorem clearIUS_rxPending (s : State) (c x : Chan) :
    ((clearIUS c s).chan x).rxPending = (s.chan x).rxPending := by
  unfold clearIUS
  dsimp only
  (repeat' split) <;> by_cases hx : x = c <;> simp_all [chan_modChan]
@[simp] theorem clearIUS_txPending (s : State) (c x : Chan) :
    ((clearIUS c s).chan x).txPending = (s.chan x).txPending := by
  unfold clearIUS
  dsimp only
  (repeat' split) <;> by_cases hx : x = c <;> simp_all [chan_modChan]
@[simp] theorem clearIUS_rxIUS (s : State) (c x : Chan) :
    ((clearIUS c s).chan x).rxIUS = if x = c then false else (s.chan x).rxIUS := by
  unfold clearIUS
  dsimp only
  (repeat' split) <;> by_cases hx : x = c <;> simp_all [chan_modChan]
@[simp] theorem clearIUS_txIUS (s : State) (c x : Chan) :
    ((clearIUS c s).chan x).txIUS =
      if x = c then (s.chan c).rxIUS && ((s.chan c).txPending || (s.chan c).txIUS)
      else (s.chan x).txIUS := by
  unfold clearIUS
  dsimp only
  (repeat' split) <;> by_cases hx : x = c <;> simp_all [chan_modChan]

end Sys2Proof.Machine
end

