-- ==== Sys2Proof/Laws/Effects.lean ====
section
/-! SUPPORT. The protocols of spec/60_exceptions.md R346 to R350 in the shapes of Sys2Proof/Safety.lean:
for each, once, everything it changes and that it changes nothing else. -/

namespace Sys2Proof.Machine

/-- Reading a register bank after one store. -/
theorem bank_get (bank : Vector Byte 16) (k n : Fin 16) (b : Byte) :
    (bank.set k b)[n] = if n = k then b else bank[n] := by
  simp only [Fin.getElem_fin, Vector.getElem_set, Fin.ext_iff, eq_comm]

/-! ## Composing effects -/

theorem EsccEffect.refl (c : Chan) (s : State) : EsccEffect c s s (s.chan c) s.rrOf [] :=
  ⟨rfl, rfl, fun _ _ => rfl, by simp⟩

/-- The shape of an effect may be rewritten: its channel up to the read registers, its registers pointwise. -/
theorem EsccEffect.congr {c : Chan} {s t : State} {ch ch' : Channel} {rr rr' : Chan → Fin 16 → Byte}
    {out : List Output} (h : EsccEffect c s t ch rr out)
    (hch : { ch with rr := (t.chan c).rr } = { ch' with rr := (t.chan c).rr })
    (hrr : ∀ x n, rr x n = rr' x n) : EsccEffect c s t ch' rr' out :=
  ⟨h.own.trans hch, h.sibling, fun x n => (h.registers x n).trans (hrr x n), h.rest⟩

/-- What is done to the channel before an effect that rewrites it is part of the effect. -/
theorem EsccEffect.after_modChan {c : Chan} {s t : State} {f : Channel → Channel} {ch : Channel}
    {rr : Chan → Fin 16 → Byte} {out : List Output} (h : EsccEffect c (s.modChan c f) t ch rr out) :
    EsccEffect c s t ch rr out := by
  obtain ⟨h1, h2, h3, h4⟩ := h
  refine ⟨h1, by simpa using h2, h3, ?_⟩
  rw [h4]
  cases c <;> rfl

/-- An update of the channel that leaves its read registers alone, after an effect. -/
theorem EsccEffect.modChan {c : Chan} {s t : State} {ch : Channel} {rr : Chan → Fin 16 → Byte}
    {out : List Output} (f : Channel → Channel) (h : EsccEffect c s t ch rr out)
    (hf : ∀ (x : Channel) (r : Vector Byte 16), f { x with rr := r } = { f x with rr := r }) :
    EsccEffect c s (t.modChan c f) (f ch) rr out := by
  have hrr : (f (t.chan c)).rr = (t.chan c).rr := by
    have := congrArg Channel.rr (hf (t.chan c) (t.chan c).rr)
    simpa using this
  obtain ⟨h1, h2, h3, h4⟩ := h
  refine ⟨?_, ?_, ?_, ?_⟩
  · rw [modChan_chan_same, hrr, ← hf, ← h1]
  · rw [modChan_chan_sib]
    exact h2
  · intro x n
    rw [← h3 x n, chan_modChan]
    split
    · next hx => subst hx; simp only [hrr]
    · rfl
  · rw [h4]
    cases c <;> rfl

/-- An output after an effect. -/
theorem EsccEffect.emit {c : Chan} {s t : State} {ch : Channel} {rr : Chan → Fin 16 → Byte}
    {out : List Output} (o : Output) (h : EsccEffect c s t ch rr out) :
    EsccEffect c s (t.emit o) ch rr (out ++ [o]) := by
  obtain ⟨h1, h2, h3, h4⟩ := h
  refine ⟨by simpa using h1, by simpa using h2, by simpa using h3, ?_⟩
  rw [h4]
  simp [State.emit]

/-- `rrAfter` does not see what was done to registers 0 and 1 of its channel. -/
theorem rrAfter_modChan {s : State} {c : Chan} {f : Channel → Channel}
    (hf : ∀ n : Fin 16, n ≠ 0 → n ≠ 1 → (f (s.chan c)).rr[n] = (s.chan c).rr[n]) (r0 r1 vec pend : Byte)
    (x : Chan) (n : Fin 16) :
    rrAfter (s.modChan c f) c r0 r1 vec pend x n = rrAfter s c r0 r1 vec pend x n := by
  unfold rrAfter
  split_ifs with h1 h2 h3 h4 <;> try rfl
  rw [chan_modChan]
  split
  · next hx =>
    subst hx
    exact hf n (fun h => h3 ⟨rfl, h⟩) (fun h => h4 ⟨rfl, h⟩)
  · rfl

theorem storeWR_effect (c : Chan) (n : Fin 16) (v : Byte) (s : State) :
    EsccEffect c s (storeWR c n v s)
      { s.chan c with wr := (s.chan c).wr.set n v, sel := 0 } s.rrOf [] :=
  (EsccEffect.refl c s).modChan (fun ch => { ch.setWR n v with sel := 0 }) fun _ _ => rfl

theorem latchPointer_effect (c : Chan) (n : BitVec 4) (s : State) :
    EsccEffect c s (latchPointer c n s) { s.chan c with sel := n } s.rrOf [] :=
  (EsccEffect.refl c s).modChan (fun ch => { ch with sel := n }) fun _ _ => rfl

theorem modChan_id (s : State) (c : Chan) : s.modChan c (fun ch => ch) = s := by cases c <;> rfl

theorem modChan_modChan (s : State) (c : Chan) (f g : Channel → Channel) :
    (s.modChan c f).modChan c g = s.modChan c (fun ch => g (f ch)) := by cases c <;> rfl

/-- A store to read register `k` of the channel after an effect. -/
theorem EsccEffect.setRR {c : Chan} {s t : State} {ch : Channel} {rr : Chan → Fin 16 → Byte}
    {out : List Output} (k : Fin 16) (v : Byte) (h : EsccEffect c s t ch rr out) :
    EsccEffect c s (t.modChan c (·.setRR k v)) ch
      (fun x n => if x = c ∧ n = k then v else rr x n) out := by
  obtain ⟨h1, h2, h3, h4⟩ := h
  refine ⟨?_, ?_, ?_, ?_⟩
  · simp only [modChan_chan_same, Channel.setRR]
    rw [h1]
  · simpa using h2
  · intro x n
    rw [chan_modChan]
    split
    · next hx => subst hx; simp only [Channel.setRR, bank_get, h3, true_and]
    · next hx => simp only [hx, false_and, if_false, h3]
  · rw [h4]
    cases c <;> rfl

/-- 42 R195, after an effect. -/
theorem EsccEffect.updateParameters {c : Chan} {s t : State} {ch : Channel}
    {rr : Chan → Fin 16 → Byte} {out : List Output} (h : EsccEffect c s t ch rr out) :
    EsccEffect c s (Machine.updateParameters c t) ch rr
      (out ++ if ch.role = .serial then
        [.parametersChanged c (deriveLineParameters s.params.clockHz ch.wr)] else []) := by
  have hr : (t.chan c).role = ch.role := by rw [h.own]
  have hw : (t.chan c).wr = ch.wr := by rw [h.own]
  have hp : t.params = s.params := by rw [h.rest]
  unfold Machine.updateParameters
  rw [hr]
  cases h' : ch.role <;> simp [hw, hp, h, EsccEffect.emit]

/-! ## The protocols -/

/-- R346. -/
theorem setRx_effect (c : Chan) (s : State) :
    EsccEffect c s (setRx c s)
      { s.chan c with rxPending := true, rxIUS := true }
      (rrAfter s c (s.chan c).rr[0] (s.chan c).rr[1]
        (rxVec c (s.chan c).statusHigh)
        (s.chA.rr[3] ||| rxPendingBit c))
      [] := by
  refine ⟨?_, ?_, ?_, ?_⟩
  · obtain ⟨chA, chB, k, m, p, i, o⟩ := s
    cases chA
    cases chB
    cases c <;> simp_all [setRx, State.setVector, State.setPendingBits, State.modChan, State.setChan,
        State.chan, Channel.setRR, Chan.sib]
  · cases c <;> simp_all [setRx, State.setVector, State.setPendingBits, State.modChan, State.setChan,
        State.chan, Channel.setRR, Chan.sib]
  · intro x n
    cases c <;> cases x <;> fin_cases n <;>
      simp_all [setRx, State.setVector, State.setPendingBits, State.modChan, State.setChan,
        State.chan, Channel.setRR, Chan.sib, rrAfter]
  · cases c <;> simp_all [setRx, State.setVector, State.setPendingBits, State.modChan, State.setChan,
        State.chan, Channel.setRR, Chan.sib]

/-- R347: receive under service holds the transmit back. -/
theorem setTx_effect (c : Chan) (s : State) :
    EsccEffect c s (setTx c s)
      { s.chan c with txPending := true, txIUS := (s.chan c).txIUS || !(s.chan c).rxIUS }
      (rrAfter s c (s.chan c).rr[0] (s.chan c).rr[1]
        (if (s.chan c).rxIUS then (s.chan c.sib).rr[2] else txVec c (s.chan c).statusHigh)
        (if (s.chan c).rxIUS then s.chA.rr[3] else s.chA.rr[3] ||| txPendingBit c))
      [] := by
  cases h0 : (s.chan c).rxIUS
  all_goals
    refine ⟨?_, ?_, ?_, ?_⟩
    · obtain ⟨chA, chB, k, m, p, i, o⟩ := s
      cases chA
      cases chB
      cases c <;> simp_all [setTx, State.setVector, State.setPendingBits, State.modChan, State.setChan,
        State.chan, Channel.setRR, Chan.sib]
    · cases c <;> simp_all [setTx, State.setVector, State.setPendingBits, State.modChan, State.setChan,
        State.chan, Channel.setRR, Chan.sib]
    · intro x n
      cases c <;> cases x <;> fin_cases n <;>
        simp_all [setTx, State.setVector, State.setPendingBits, State.modChan, State.setChan,
        State.chan, Channel.setRR, Chan.sib, rrAfter]
    · cases c <;> simp_all [setTx, State.setVector, State.setPendingBits, State.modChan, State.setChan,
        State.chan, Channel.setRR, Chan.sib]

/-- R348: a pending transmit is promoted. -/
theorem clearRx_effect (c : Chan) (s : State) :
    EsccEffect c s (clearRx c s)
      { s.chan c with
        rxPending := false
        rxIUS := false
        txIUS := (s.chan c).txIUS || (s.chan c).txPending }
      (rrAfter s c (s.chan c).rr[0] (s.chan c).rr[1]
        (if (s.chan c).txPending then txVec c (s.chan c).statusHigh
          else noIntVec (s.chan c).statusHigh)
        (if (s.chan c).txPending then s.chA.rr[3] &&& ~~~(rxPendingBit c) ||| txPendingBit c
          else s.chA.rr[3] &&& ~~~(rxPendingBit c)))
      [] := by
  cases h0 : (s.chan c).txPending
  all_goals
    refine ⟨?_, ?_, ?_, ?_⟩
    · obtain ⟨chA, chB, k, m, p, i, o⟩ := s
      cases chA
      cases chB
      cases c <;> simp_all [clearRx, setTx, State.setVector, State.setPendingBits, State.clearPendingBits,
        State.modChan, State.setChan, State.chan, Channel.setRR, Chan.sib, Channel.statusHigh]
    · cases c <;> simp_all [clearRx, setTx, State.setVector, State.setPendingBits, State.clearPendingBits,
        State.modChan, State.setChan, State.chan, Channel.setRR, Chan.sib, Channel.statusHigh]
    · intro x n
      cases c <;> cases x <;> fin_cases n <;>
        simp_all [clearRx, setTx, State.setVector, State.setPendingBits, State.clearPendingBits,
        State.modChan, State.setChan, State.chan, Channel.setRR, Chan.sib, Channel.statusHigh, rrAfter]
    · cases c <;> simp_all [clearRx, setTx, State.setVector, State.setPendingBits, State.clearPendingBits,
        State.modChan, State.setChan, State.chan, Channel.setRR, Chan.sib, Channel.statusHigh]

/-- R349: a pending receive is taken under service again. -/
theorem clearTx_effect (c : Chan) (s : State) :
    EsccEffect c s (clearTx c s)
      { s.chan c with
        txPending := false
        txIUS := false
        rxIUS := (s.chan c).rxIUS || (s.chan c).rxPending }
      (rrAfter s c (s.chan c).rr[0] (s.chan c).rr[1]
        (if (s.chan c).rxPending then rxVec c (s.chan c).statusHigh
          else noIntVec (s.chan c).statusHigh)
        (if (s.chan c).rxPending then s.chA.rr[3] &&& ~~~(txPendingBit c) ||| rxPendingBit c
          else s.chA.rr[3] &&& ~~~(txPendingBit c)))
      [] := by
  cases h0 : (s.chan c).rxPending
  all_goals
    refine ⟨?_, ?_, ?_, ?_⟩
    · obtain ⟨chA, chB, k, m, p, i, o⟩ := s
      cases chA
      cases chB
      cases c <;> simp_all [clearTx, setRx, State.setVector, State.setPendingBits, State.clearPendingBits,
        State.modChan, State.setChan, State.chan, Channel.setRR, Chan.sib, Channel.statusHigh]
    · cases c <;> simp_all [clearTx, setRx, State.setVector, State.setPendingBits, State.clearPendingBits,
        State.modChan, State.setChan, State.chan, Channel.setRR, Chan.sib, Channel.statusHigh]
    · intro x n
      cases c <;> cases x <;> fin_cases n <;>
        simp_all [clearTx, setRx, State.setVector, State.setPendingBits, State.clearPendingBits,
        State.modChan, State.setChan, State.chan, Channel.setRR, Chan.sib, Channel.statusHigh, rrAfter]
    · cases c <;> simp_all [clearTx, setRx, State.setVector, State.setPendingBits, State.clearPendingBits,
        State.modChan, State.setChan, State.chan, Channel.setRR, Chan.sib, Channel.statusHigh]

/-- R350: the highest latch alone is cleared; a pending transmit is promoted where it was receive's. -/
theorem clearIUS_effect (c : Chan) (s : State) :
    EsccEffect c s (clearIUS c s)
      { s.chan c with
        rxIUS := false
        txIUS := (s.chan c).rxIUS && ((s.chan c).txIUS || (s.chan c).txPending) }
      (rrAfter s c (s.chan c).rr[0] (s.chan c).rr[1]
        (if (s.chan c).rxIUS && (s.chan c).txPending then txVec c (s.chan c).statusHigh
          else (s.chan c.sib).rr[2])
        (if (s.chan c).rxIUS && (s.chan c).txPending then s.chA.rr[3] ||| txPendingBit c
          else s.chA.rr[3]))
      [] := by
  cases h0 : (s.chan c).rxIUS
  on_goal 1 => cases h1 : (s.chan c).txIUS
  on_goal 3 => cases h1 : (s.chan c).txPending
  all_goals
    refine ⟨?_, ?_, ?_, ?_⟩
    · obtain ⟨chA, chB, k, m, p, i, o⟩ := s
      cases chA
      cases chB
      cases c <;> simp_all [clearIUS, setTx, State.setVector, State.setPendingBits, State.modChan, State.setChan,
        State.chan, Channel.setRR, Chan.sib, Channel.statusHigh]
    · cases c <;> simp_all [clearIUS, setTx, State.setVector, State.setPendingBits, State.modChan, State.setChan,
        State.chan, Channel.setRR, Chan.sib, Channel.statusHigh]
    · intro x n
      cases c <;> cases x <;> fin_cases n <;>
        simp_all [clearIUS, setTx, State.setVector, State.setPendingBits, State.modChan, State.setChan,
        State.chan, Channel.setRR, Chan.sib, Channel.statusHigh, rrAfter]
    · cases c <;> simp_all [clearIUS, setTx, State.setVector, State.setPendingBits, State.modChan, State.setChan,
        State.chan, Channel.setRR, Chan.sib, Channel.statusHigh]

/-- 43 R202: rx-available is set and SetRx run. -/
theorem dataAvailable_effect (c : Chan) (s : State) :
    EsccEffect c s (dataAvailable c s) ((s.chan c).received (s.chan c).q) (rrReceived s c) [] := by
  refine ((setRx_effect c _).after_modChan).congr ?_ ?_
  · simp [Channel.received, Channel.setStatus, Channel.setRR]
  · intro x n
    unfold rrReceived
    rw [rrAfter_modChan]
    · cases c <;> simp [State.modChan, State.setChan, State.chan, Channel.setStatus,
        Channel.setRR, Channel.statusHigh, statusRxav]
    · intro n h0 _
      simp only [Channel.setStatus, Channel.setRR, bank_get, h0, if_false]

/-- The end of every data-port write (43 R200). -/
theorem transmitDone_effect (c : Chan) (s : State) :
    EsccEffect c s (transmitDone c s) ((s.chan c).transmitted (s.chan c).tx (s.chan c).ledLatch)
      (rrTransmitted s c) [] := by
  refine ((setTx_effect c _).after_modChan).congr ?_ ?_
  · simp [Channel.transmitted, Channel.setStatus, Channel.setRR]
  · intro x n
    unfold rrTransmitted
    rw [rrAfter_modChan]
    · cases c <;> simp [State.modChan, State.setChan, State.chan, Channel.setStatus, Channel.setRR,
        Channel.statusHigh, statusTxempty, specAllsent, Chan.sib] <;> rfl
    · intro n h0 h1
      simp only [Channel.setStatus, Channel.setRR, bank_get, h0, h1, if_false]

/-- `rrReceived` does not see what was done to the fields of its channel outside its registers. -/
theorem rrReceived_modChan {s : State} {c : Chan} {f : Channel → Channel}
    (hr : (f (s.chan c)).rr = (s.chan c).rr) (hw : (f (s.chan c)).wr = (s.chan c).wr) (x : Chan) (n : Fin 16) :
    rrReceived (s.modChan c f) c x n = rrReceived s c x n := by
  unfold rrReceived
  rw [rrAfter_modChan (fun n _ _ => by rw [hr])]
  have h1 : ((s.modChan c f).chan c).rr = (s.chan c).rr := by rw [modChan_chan_same, hr]
  have h2 : (s.modChan c f).chA.rr = s.chA.rr := by
    cases c
    · exact h1
    · rfl
  have h3 : ((s.modChan c f).chan c).statusHigh = (s.chan c).statusHigh := by
    rw [modChan_chan_same, Channel.statusHigh, hw, Channel.statusHigh]
  simp only [h1, h2, h3]

/-! ## Reset -/

/-- `ResetChannel` (70 R391) leaves the reset values of R393 under the channel's own parameters. -/
theorem afterReset_eq (ch : Channel) :
    ch.afterReset = { Channel.reset ch.role ch.disabled with q := ch.q.clear } := by
  cases h : ch.disabled <;> simp only [Channel.afterReset, Channel.reset, h] <;> congr

theorem resetChannel_effect (x : Chan) (s : State) : ChannelReset x s (resetChannel x s) := by
  refine ⟨?_, ?_, ?_⟩
  · simp only [resetChannel, modChan_chan_same]
    rw [afterReset_eq]
  · simp [resetChannel, Channel.afterReset]
  · cases x <;> simp [resetChannel, State.modChan]

end Sys2Proof.Machine
end

