-- ==== Sys2Proof/Laws/PerInstr.lean ====
section
/-! SUPPORT. What holds of each instruction as syntax, one lemma per constructor. -/

namespace Sys2Proof.Laws

/-- A protocol state in which both channels select register `n` in role `r`, with transmit and LED latch as
given, and the PS/2 devices await no argument. -/
def samplePhase (n : BitVec 4) (r : Role) (tx latch : Bool) : Protocol :=
  let x : ChanPhase := { sel := n, role := r, txEnabled := tx, ledLatch := latch }
  { chA := x, chB := x, kbdArg := none, auxArg := none, wrap := false, itShift := 0 }

end Sys2Proof.Laws

namespace Sys2Proof.Laws.WhenSatisfiable

/-- No row of the opcode table is dead: some protocol state meets its `when`. -/
def Statement (i : Instr) : Prop := ∃ p : Protocol, i.when p = true

theorem cmdNull (c : Chan) (ign : BitVec 2) (ptr : BitVec 3) : Statement (.cmdNull c ign ptr) :=
  ⟨samplePhase 0 .serial false false, by cases c <;> rfl⟩
theorem cmdHi (c : Chan) (ign : BitVec 2) (ptr : BitVec 3) : Statement (.cmdHi c ign ptr) :=
  ⟨samplePhase 0 .serial false false, by cases c <;> rfl⟩
theorem cmdUnassigned10 (c : Chan) (ign : BitVec 2) (ptr : BitVec 3) : Statement (.cmdUnassigned10 c ign ptr) :=
  ⟨samplePhase 0 .serial false false, by cases c <;> rfl⟩
theorem cmdUnassigned18 (c : Chan) (ign : BitVec 2) (ptr : BitVec 3) : Statement (.cmdUnassigned18 c ign ptr) :=
  ⟨samplePhase 0 .serial false false, by cases c <;> rfl⟩
theorem cmdUnassigned20 (c : Chan) (ign : BitVec 2) (ptr : BitVec 3) : Statement (.cmdUnassigned20 c ign ptr) :=
  ⟨samplePhase 0 .serial false false, by cases c <;> rfl⟩
theorem cmdClrTxint (c : Chan) (ign : BitVec 2) (ptr : BitVec 3) : Statement (.cmdClrTxint c ign ptr) :=
  ⟨samplePhase 0 .serial false false, by cases c <;> rfl⟩
theorem cmdUnassigned30 (c : Chan) (ign : BitVec 2) (ptr : BitVec 3) : Statement (.cmdUnassigned30 c ign ptr) :=
  ⟨samplePhase 0 .serial false false, by cases c <;> rfl⟩
theorem cmdClrIus (c : Chan) (ign : BitVec 2) (ptr : BitVec 3) : Statement (.cmdClrIus c ign ptr) :=
  ⟨samplePhase 0 .serial false false, by cases c <;> rfl⟩
theorem wr1 (c : Chan) (v : Byte) : Statement (.wr1 c v) :=
  ⟨samplePhase 1 .serial false false, by cases c <;> rfl⟩
theorem wr2 (c : Chan) (v : Byte) : Statement (.wr2 c v) :=
  ⟨samplePhase 2 .serial false false, by cases c <;> rfl⟩
theorem wr3 (c : Chan) (v : Byte) : Statement (.wr3 c v) :=
  ⟨samplePhase 3 .serial false false, by cases c <;> rfl⟩
theorem wr4 (c : Chan) (v : Byte) : Statement (.wr4 c v) :=
  ⟨samplePhase 4 .serial false false, by cases c <;> rfl⟩
theorem wr5 (c : Chan) (v : Byte) : Statement (.wr5 c v) :=
  ⟨samplePhase 5 .serial false false, by cases c <;> rfl⟩
theorem wr6 (c : Chan) (v : Byte) : Statement (.wr6 c v) :=
  ⟨samplePhase 6 .serial false false, by cases c <;> rfl⟩
theorem wr7 (c : Chan) (v : Byte) : Statement (.wr7 c v) :=
  ⟨samplePhase 7 .serial false false, by cases c <;> rfl⟩
theorem wr8 (c : Chan) (v : Byte) : Statement (.wr8 c v) :=
  ⟨samplePhase 8 .serial false false, by cases c <;> rfl⟩
theorem wr9Store (c : Chan) (low : BitVec 6) : Statement (.wr9Store c low) :=
  ⟨samplePhase 9 .serial false false, by cases c <;> rfl⟩
theorem wr9RstB (c : Chan) (low : BitVec 6) : Statement (.wr9RstB c low) :=
  ⟨samplePhase 9 .serial false false, by cases c <;> rfl⟩
theorem wr9RstA (c : Chan) (low : BitVec 6) : Statement (.wr9RstA c low) :=
  ⟨samplePhase 9 .serial false false, by cases c <;> rfl⟩
theorem wr9RstAll (c : Chan) (low : BitVec 6) : Statement (.wr9RstAll c low) :=
  ⟨samplePhase 9 .serial false false, by cases c <;> rfl⟩
theorem wr10 (c : Chan) (v : Byte) : Statement (.wr10 c v) :=
  ⟨samplePhase 10 .serial false false, by cases c <;> rfl⟩
theorem wr11 (c : Chan) (v : Byte) : Statement (.wr11 c v) :=
  ⟨samplePhase 11 .serial false false, by cases c <;> rfl⟩
theorem wr12Brglo (c : Chan) (v : Byte) : Statement (.wr12Brglo c v) :=
  ⟨samplePhase 12 .serial false false, by cases c <;> rfl⟩
theorem wr13Brghi (c : Chan) (v : Byte) : Statement (.wr13Brghi c v) :=
  ⟨samplePhase 13 .serial false false, by cases c <;> rfl⟩
theorem wr14 (c : Chan) (v : Byte) : Statement (.wr14 c v) :=
  ⟨samplePhase 14 .serial false false, by cases c <;> rfl⟩
theorem wr15 (c : Chan) (v : Byte) : Statement (.wr15 c v) :=
  ⟨samplePhase 15 .serial false false, by cases c <;> rfl⟩
theorem rr0 (c : Chan) : Statement (.rr0 c) :=
  ⟨samplePhase 0 .serial false false, by cases c <;> rfl⟩
theorem rr1 (c : Chan) : Statement (.rr1 c) :=
  ⟨samplePhase 1 .serial false false, by cases c <;> rfl⟩
theorem rr2 (c : Chan) : Statement (.rr2 c) :=
  ⟨samplePhase 2 .serial false false, by cases c <;> rfl⟩
theorem rr3 (c : Chan) : Statement (.rr3 c) :=
  ⟨samplePhase 3 .serial false false, by cases c <;> rfl⟩
theorem rr4 (c : Chan) : Statement (.rr4 c) :=
  ⟨samplePhase 4 .serial false false, by cases c <;> rfl⟩
theorem rr5 (c : Chan) : Statement (.rr5 c) :=
  ⟨samplePhase 5 .serial false false, by cases c <;> rfl⟩
theorem rr6 (c : Chan) : Statement (.rr6 c) :=
  ⟨samplePhase 6 .serial false false, by cases c <;> rfl⟩
theorem rr7 (c : Chan) : Statement (.rr7 c) :=
  ⟨samplePhase 7 .serial false false, by cases c <;> rfl⟩
theorem rr8 (c : Chan) : Statement (.rr8 c) :=
  ⟨samplePhase 8 .serial false false, by cases c <;> rfl⟩
theorem rr9 (c : Chan) : Statement (.rr9 c) :=
  ⟨samplePhase 9 .serial false false, by cases c <;> rfl⟩
theorem rr10 (c : Chan) : Statement (.rr10 c) :=
  ⟨samplePhase 10 .serial false false, by cases c <;> rfl⟩
theorem rr11 (c : Chan) : Statement (.rr11 c) :=
  ⟨samplePhase 11 .serial false false, by cases c <;> rfl⟩
theorem rr12 (c : Chan) : Statement (.rr12 c) :=
  ⟨samplePhase 12 .serial false false, by cases c <;> rfl⟩
theorem rr13 (c : Chan) : Statement (.rr13 c) :=
  ⟨samplePhase 13 .serial false false, by cases c <;> rfl⟩
theorem rr14 (c : Chan) : Statement (.rr14 c) :=
  ⟨samplePhase 14 .serial false false, by cases c <;> rfl⟩
theorem rr15 (c : Chan) : Statement (.rr15 c) :=
  ⟨samplePhase 15 .serial false false, by cases c <;> rfl⟩
theorem dwSerial (c : Chan) (v : Byte) : Statement (.dwSerial c v) :=
  ⟨samplePhase 0 .serial false false, by cases c <;> rfl⟩
theorem dwMouse (c : Chan) (v : Byte) : Statement (.dwMouse c v) :=
  ⟨samplePhase 0 .mouse false false, by cases c <;> rfl⟩
theorem dwKbdTxoff (c : Chan) (v : Byte) : Statement (.dwKbdTxoff c v) :=
  ⟨samplePhase 0 .keyboard false false, by cases c <;> rfl⟩
theorem skReset (c : Chan) : Statement (.skReset c) :=
  ⟨samplePhase 0 .keyboard true false, by cases c <;> rfl⟩
theorem skLayout07 (c : Chan) : Statement (.skLayout07 c) :=
  ⟨samplePhase 0 .keyboard true false, by cases c <;> rfl⟩
theorem skSetLeds (c : Chan) : Statement (.skSetLeds c) :=
  ⟨samplePhase 0 .keyboard true false, by cases c <;> rfl⟩
theorem skLayout0F (c : Chan) : Statement (.skLayout0F c) :=
  ⟨samplePhase 0 .keyboard true false, by cases c <;> rfl⟩
theorem skOther (c : Chan) (v : Byte) : Statement (.skOther c v) :=
  ⟨samplePhase 0 .keyboard true false, by cases c <;> rfl⟩
theorem skLedMask (c : Chan) (v : Byte) : Statement (.skLedMask c v) :=
  ⟨samplePhase 0 .keyboard true true, by cases c <;> rfl⟩
theorem dr (c : Chan) : Statement (.dr c) :=
  ⟨samplePhase 0 .serial false false, rfl⟩
theorem receive (c : Chan) (b : Byte) : Statement (.receive c b) :=
  ⟨samplePhase 0 .serial false false, rfl⟩
theorem receiveBreak (c : Chan) : Statement (.receiveBreak c) :=
  ⟨samplePhase 0 .serial false false, rfl⟩
theorem keyEvent (c : Chan) (q : Qcode) (down : Bool) : Statement (.keyEvent c q down) :=
  ⟨samplePhase 0 .serial false false, rfl⟩
theorem mouseEvent (c : Chan) (dx dy dz : Int) (buttons : Byte) : Statement (.mouseEvent c dx dy dz buttons) :=
  ⟨samplePhase 0 .serial false false, rfl⟩
theorem esccReset : Statement .esccReset :=
  ⟨samplePhase 0 .serial false false, rfl⟩
theorem kbd00 : Statement .kbd00 :=
  ⟨samplePhase 0 .serial false false, rfl⟩
theorem kbd05 : Statement .kbd05 :=
  ⟨samplePhase 0 .serial false false, rfl⟩
theorem kbdSetLeds : Statement .kbdSetLeds :=
  ⟨samplePhase 0 .serial false false, rfl⟩
theorem kbdEcho : Statement .kbdEcho :=
  ⟨samplePhase 0 .serial false false, rfl⟩
theorem kbdScancode : Statement .kbdScancode :=
  ⟨samplePhase 0 .serial false false, rfl⟩
theorem kbdGetId : Statement .kbdGetId :=
  ⟨samplePhase 0 .serial false false, rfl⟩
theorem kbdSetRate : Statement .kbdSetRate :=
  ⟨samplePhase 0 .serial false false, rfl⟩
theorem kbdEnable : Statement .kbdEnable :=
  ⟨samplePhase 0 .serial false false, rfl⟩
theorem kbdResetDisable : Statement .kbdResetDisable :=
  ⟨samplePhase 0 .serial false false, rfl⟩
theorem kbdResetEnable : Statement .kbdResetEnable :=
  ⟨samplePhase 0 .serial false false, rfl⟩
theorem kbdResetCmd : Statement .kbdResetCmd :=
  ⟨samplePhase 0 .serial false false, rfl⟩
theorem kbdOther (v : Byte) : Statement (.kbdOther v) :=
  ⟨samplePhase 0 .serial false false, rfl⟩
theorem kbdArgScancode (v : Byte) : Statement (.kbdArgScancode v) :=
  ⟨{ samplePhase 0 .serial false false with kbdArg := some .scancode }, rfl⟩
theorem kbdArgSetLeds (v : Byte) : Statement (.kbdArgSetLeds v) :=
  ⟨{ samplePhase 0 .serial false false with kbdArg := some .setLeds }, rfl⟩
theorem kbdArgSetRate (v : Byte) : Statement (.kbdArgSetRate v) :=
  ⟨{ samplePhase 0 .serial false false with kbdArg := some .setRate }, rfl⟩
theorem kbdRead : Statement .kbdRead :=
  ⟨samplePhase 0 .serial false false, rfl⟩
theorem kbdEmit (k : Byte) : Statement (.kbdEmit k) :=
  ⟨samplePhase 0 .serial false false, rfl⟩
theorem kbdSetTranslate (t : Bool) : Statement (.kbdSetTranslate t) :=
  ⟨samplePhase 0 .serial false false, rfl⟩
theorem kbdReset : Statement .kbdReset :=
  ⟨samplePhase 0 .serial false false, rfl⟩
theorem auxSetScale11 : Statement .auxSetScale11 :=
  ⟨samplePhase 0 .serial false false, rfl⟩
theorem auxSetScale21 : Statement .auxSetScale21 :=
  ⟨samplePhase 0 .serial false false, rfl⟩
theorem auxSetRes : Statement .auxSetRes :=
  ⟨samplePhase 0 .serial false false, rfl⟩
theorem auxGetScale : Statement .auxGetScale :=
  ⟨samplePhase 0 .serial false false, rfl⟩
theorem auxSetStream : Statement .auxSetStream :=
  ⟨samplePhase 0 .serial false false, rfl⟩
theorem auxPoll : Statement .auxPoll :=
  ⟨samplePhase 0 .serial false false, rfl⟩
theorem auxResetWrap : Statement .auxResetWrap :=
  ⟨samplePhase 0 .serial false false, rfl⟩
theorem auxSetWrap : Statement .auxSetWrap :=
  ⟨samplePhase 0 .serial false false, rfl⟩
theorem auxSetRemote : Statement .auxSetRemote :=
  ⟨samplePhase 0 .serial false false, rfl⟩
theorem auxGetType : Statement .auxGetType :=
  ⟨samplePhase 0 .serial false false, rfl⟩
theorem auxSetSample : Statement .auxSetSample :=
  ⟨samplePhase 0 .serial false false, rfl⟩
theorem auxEnableDev : Statement .auxEnableDev :=
  ⟨samplePhase 0 .serial false false, rfl⟩
theorem auxDisableDev : Statement .auxDisableDev :=
  ⟨samplePhase 0 .serial false false, rfl⟩
theorem auxSetDefault : Statement .auxSetDefault :=
  ⟨samplePhase 0 .serial false false, rfl⟩
theorem auxReset : Statement .auxReset :=
  ⟨samplePhase 0 .serial false false, rfl⟩
theorem auxOther (v : Byte) : Statement (.auxOther v) :=
  ⟨samplePhase 0 .serial false false, rfl⟩
theorem auxWrapExit : Statement .auxWrapExit :=
  ⟨{ samplePhase 0 .serial false false with wrap := true }, rfl⟩
theorem auxWrapEcho (v : Byte) : Statement (.auxWrapEcho v) :=
  ⟨{ samplePhase 0 .serial false false with wrap := true }, rfl⟩
theorem auxArgSetRes (v : Byte) : Statement (.auxArgSetRes v) :=
  ⟨{ samplePhase 0 .serial false false with auxArg := some .setRes }, rfl⟩
theorem auxArgSetSample (v : Byte) : Statement (.auxArgSetSample v) :=
  ⟨{ samplePhase 0 .serial false false with auxArg := some .setSample }, rfl⟩
theorem mouseRead : Statement .mouseRead :=
  ⟨samplePhase 0 .serial false false, rfl⟩
theorem ps2MouseEvent (dx dy dz : Int) (buttons : Byte) : Statement (.ps2MouseEvent dx dy dz buttons) :=
  ⟨samplePhase 0 .serial false false, rfl⟩
theorem mouseReset : Statement .mouseReset :=
  ⟨samplePhase 0 .serial false false, rfl⟩

end Sys2Proof.Laws.WhenSatisfiable
end

