-- ==== Sys2Proof/Laws/Pushes.lean ====
section
/-! SUPPORT. One `push` and one `pop` (spec/40_bytequeue.md R140, R141) on the queue of a channel and of each
PS/2 device, in the shapes of Sys2Proof/Safety.lean. -/

namespace Sys2Proof.Machine

/-- `push` (40 R140) on a channel's queue. -/
theorem pushChan_effect (c : Chan) (b : Byte) (s : State) :
    if (s.chan c).q.isFull then pushChan c b s = s
    else EsccEffect c s (pushChan c b s) ((s.chan c).received ((s.chan c).q.enqueue b)) (rrReceived s c) [] := by
  unfold pushChan
  split
  · rfl
  · refine ((dataAvailable_effect c _).after_modChan).congr ?_ fun x n => rrReceived_modChan rfl rfl x n
    simp [Channel.received]

/-- `pop` (40 R141) on a channel's queue. -/
theorem popChan_effect (c : Chan) (s : State) :
    if (s.chan c).q.count = 0 then popChan c s = s
    else if (s.chan c).q.count = 1 then
      EsccEffect c s (popChan c s) { s.chan c with q := (s.chan c).q.dequeue } s.rrOf []
    else
      EsccEffect c s (popChan c s) ((s.chan c).received (s.chan c).q.dequeue) (rrReceived s c) [] := by
  unfold popChan
  split
  · rfl
  · have h1 : EsccEffect c s (s.modChan c fun ch => { ch with q := ch.q.dequeue })
        { s.chan c with q := (s.chan c).q.dequeue } s.rrOf [] :=
      (EsccEffect.refl c s).modChan (fun ch => { ch with q := ch.q.dequeue }) fun _ _ => rfl
    split
    · next h => simpa [h] using h1
    · next h0 h =>
      have : 0 < (s.chan c).q.count - 1 := by omega
      simp only [modChan_chan_same, ByteQueue.dequeue_count, this, if_true]
      refine ((dataAvailable_effect c _).after_modChan).congr ?_ fun x n => rrReceived_modChan rfl rfl x n
      simp [Channel.received]

/-- `push` on the keyboard's queue (40 R140; 60 R357), after an effect. -/
theorem KbdEffect.push {s t : State} {k : Keyboard} {bs : List Byte} {out : List Output} (b : Byte)
    (hq : t.kbd.q.wf = true) (h : KbdEffect s t k bs out) :
    (pushKbd b t).kbd.q.wf = true ∧
    KbdEffect s (pushKbd b t) k ((bs ++ [b]).take Config.ps2Qcap)
      (out ++ List.replicate (min 1 (Config.ps2Qcap - bs.length)) (.kbdIrq true)) := by
  obtain ⟨h1, h2, h3, h4⟩ := h
  have hlen : t.kbd.q.count = bs.length := by rw [← h2, ByteQueue.length_contents]
  have hle := (t.kbd.q.wf_iff.mp hq).1
  unfold pushKbd
  cases hf : t.kbd.q.isFull
  · have hne : t.kbd.q.count ≠ Config.ps2Qcap := fun hc => by
      simp [(t.kbd.q.isFull_iff).mpr hc] at hf
    have hlt : bs.length < Config.ps2Qcap := by omega
    have hmin : min 1 (Config.ps2Qcap - bs.length) = 1 := by omega
    refine ⟨ByteQueue.enqueue_wf _ _ hq hf, ?_, ?_, ?_, ?_⟩
    · simp only [Bool.false_eq_true, if_false, setKbdIrq, State.emit]
      rw [h1]
    · have := t.kbd.q.enqueue_contents b hq hf
      rw [h2] at this
      rw [List.take_of_length_le (by simp; omega)]
      exact this
    · rw [List.take_of_length_le (by simp; omega)]
      simp [setKbdIrq, State.emit]
    · rw [hmin]
      simp only [Bool.false_eq_true, if_false, setKbdIrq, State.emit]
      rw [h4]
      simp
  · have hc : bs.length = Config.ps2Qcap := hlen ▸ (t.kbd.q.isFull_iff).mp hf
    have htake : (bs ++ [b]).take Config.ps2Qcap = bs := by rw [List.take_append_of_le_length hc.ge, ← hc, List.take_length]
    have hmin : min 1 (Config.ps2Qcap - bs.length) = 0 := by omega
    rw [htake, hmin]
    simp only [if_true, List.replicate_zero, List.append_nil]
    exact ⟨hq, h1, h2, h3, h4⟩

/-- `pop` on the keyboard's queue (40 R141; 60 R357). -/
theorem popKbd_effect (s : State) :
    popKbd s =
      if s.kbd.q.count = 0 then s
      else if s.kbd.q.count = 1 then { s with kbd := { s.kbd with q := s.kbd.q.dequeue } }
      else
        { s with
          kbd := { s.kbd with q := s.kbd.q.dequeue, irq := true }
          out := s.out ++ [.kbdIrq true] } := by
  unfold popKbd
  split
  · rfl
  · split
    · next h => simp [h]
    · have : 0 < s.kbd.q.count - 1 := by omega
      simp [this, setKbdIrq, State.emit]

/-- A keyboard whose line is high exactly when its queue is not empty is an effect on itself. -/
theorem KbdEffect.refl {s : State} (h : s.kbd.Sound) : KbdEffect s s s.kbd s.kbd.q.contents [] := by
  refine ⟨rfl, rfl, ?_, by simp⟩
  rw [h.line]
  cases hc : s.kbd.q.contents with
  | nil => simp [(s.kbd.q.contents_eq_nil).mp hc]
  | cons b bs =>
    have : s.kbd.q.count ≠ 0 := fun h0 => by simp [(s.kbd.q.contents_eq_nil).mpr h0] at hc
    simp [this]

/-- `push` on the mouse's queue (40 R140; 60 R357), after an effect. -/
theorem MouseEffect.push {s t : State} {k : Mouse} {bs : List Byte} {out : List Output} (b : Byte)
    (hq : t.mouse.q.wf = true) (h : MouseEffect s t k bs out) :
    (pushMouse b t).mouse.q.wf = true ∧
    MouseEffect s (pushMouse b t) k ((bs ++ [b]).take Config.ps2Qcap)
      (out ++ List.replicate (min 1 (Config.ps2Qcap - bs.length)) (.mouseIrq true)) := by
  obtain ⟨h1, h2, h3, h4⟩ := h
  have hlen : t.mouse.q.count = bs.length := by rw [← h2, ByteQueue.length_contents]
  have hle := (t.mouse.q.wf_iff.mp hq).1
  unfold pushMouse
  cases hf : t.mouse.q.isFull
  · have hne : t.mouse.q.count ≠ Config.ps2Qcap := fun hc => by
      simp [(t.mouse.q.isFull_iff).mpr hc] at hf
    have hlt : bs.length < Config.ps2Qcap := by omega
    have hmin : min 1 (Config.ps2Qcap - bs.length) = 1 := by omega
    refine ⟨ByteQueue.enqueue_wf _ _ hq hf, ?_, ?_, ?_, ?_⟩
    · simp only [Bool.false_eq_true, if_false, setMouseIrq, State.emit]
      rw [h1]
    · have := t.mouse.q.enqueue_contents b hq hf
      rw [h2] at this
      rw [List.take_of_length_le (by simp; omega)]
      exact this
    · rw [List.take_of_length_le (by simp; omega)]
      simp [setMouseIrq, State.emit]
    · rw [hmin]
      simp only [Bool.false_eq_true, if_false, setMouseIrq, State.emit]
      rw [h4]
      simp
  · have hc : bs.length = Config.ps2Qcap := hlen ▸ (t.mouse.q.isFull_iff).mp hf
    have htake : (bs ++ [b]).take Config.ps2Qcap = bs := by rw [List.take_append_of_le_length hc.ge, ← hc, List.take_length]
    have hmin : min 1 (Config.ps2Qcap - bs.length) = 0 := by omega
    rw [htake, hmin]
    simp only [if_true, List.replicate_zero, List.append_nil]
    exact ⟨hq, h1, h2, h3, h4⟩

/-- `pop` on the mouse's queue (40 R141; 60 R357). -/
theorem popMouse_effect (s : State) :
    popMouse s =
      if s.mouse.q.count = 0 then s
      else if s.mouse.q.count = 1 then { s with mouse := { s.mouse with q := s.mouse.q.dequeue } }
      else
        { s with
          mouse := { s.mouse with q := s.mouse.q.dequeue, irq := true }
          out := s.out ++ [.mouseIrq true] } := by
  unfold popMouse
  split
  · rfl
  · split
    · next h => simp [h]
    · have : 0 < s.mouse.q.count - 1 := by omega
      simp [this, setMouseIrq, State.emit]

/-- A mouse whose line is high exactly when its queue is not empty is an effect on itself. -/
theorem MouseEffect.refl {s : State} (h : s.mouse.Sound) : MouseEffect s s s.mouse s.mouse.q.contents [] := by
  refine ⟨rfl, rfl, ?_, by simp⟩
  rw [h.line]
  cases hc : s.mouse.q.contents with
  | nil => simp [(s.mouse.q.contents_eq_nil).mp hc]
  | cons b bs =>
    have : s.mouse.q.count ≠ 0 := fun h0 => by simp [(s.mouse.q.contents_eq_nil).mpr h0] at hc
    simp [this]

/-- An update of the keyboard outside its queue and line, after an effect. -/
theorem KbdEffect.after {s t : State} {k : Keyboard} {bs : List Byte} {out : List Output}
    (f : Keyboard → Keyboard)
    (hf : ∀ (k : Keyboard) (q : ByteQueue Config.ps2Qcap) (i : Bool),
      f { k with q := q, irq := i } = { f k with q := q, irq := i })
    (h : KbdEffect s t k bs out) : KbdEffect s { t with kbd := f t.kbd } (f k) bs out := by
  obtain ⟨h1, h2, h3, h4⟩ := h
  have e : f t.kbd = { f k with q := t.kbd.q, irq := t.kbd.irq } := by
    conv_lhs => rw [h1]
    exact hf _ _ _
  refine ⟨?_, ?_, ?_, ?_⟩
  · simp [e]
  · simp [e, h2]
  · simp [e, h3]
  · simp only []
    conv_lhs => rw [h4]

/-- An update of the mouse outside its queue and line, after an effect. -/
theorem MouseEffect.after {s t : State} {k : Mouse} {bs : List Byte} {out : List Output}
    (f : Mouse → Mouse)
    (hf : ∀ (k : Mouse) (q : ByteQueue Config.ps2Qcap) (i : Bool),
      f { k with q := q, irq := i } = { f k with q := q, irq := i })
    (h : MouseEffect s t k bs out) : MouseEffect s { t with mouse := f t.mouse } (f k) bs out := by
  obtain ⟨h1, h2, h3, h4⟩ := h
  have e : f t.mouse = { f k with q := t.mouse.q, irq := t.mouse.irq } := by
    conv_lhs => rw [h1]
    exact hf _ _ _
  refine ⟨?_, ?_, ?_, ?_⟩
  · simp [e]
  · simp [e, h2]
  · simp [e, h3]
  · simp only []
    conv_lhs => rw [h4]

/-! ## Serving a `KbdEmit` (45 R267, R272) -/

@[simp] theorem pushKbd_with_inputs (b : Byte) (s : State) (is : List Op) :
    pushKbd b { s with inputs := is } = { pushKbd b s with inputs := is } := by
  simp only [pushKbd]
  split <;> rfl

@[simp] theorem pushKbdAll_with_inputs (bs : List Byte) (s : State) (is : List Op) :
    pushKbdAll bs { s with inputs := is } = { pushKbdAll bs s with inputs := is } := by
  induction bs generalizing s with
  | nil => rfl
  | cons b bs ih => simp [pushKbdAll, ih]

@[simp] theorem ps2KeyOps_length (q : Qcode) (down : Bool) :
    (ps2KeyOps q down).length = (Config.ps2Keycodes q down).length := by simp [ps2KeyOps]

/-- A keycode byte presented to the PS/2 keyboard is within the contract of 60 R341. -/
theorem decode_kbdEmit (p : Protocol) (k : Byte) : decode p (.kbdEmit k.toNat) = .instr (.kbdEmit k) := by
  have : k.toNat < 256 := k.isLt
  simp [decode, withByte, this]

/-- A step that serves one `KbdEmit` queues what its byte is emitted as. -/
theorem step_kbdEmit (s : State) (k : Byte) (rest : List Op) (h : s.inputs = .kbdEmit k.toNat :: rest) :
    step s =
      .next { pushKbdAll (emitBytes s.kbd.translate s.kbd.scancodeSet k) s with inputs := rest } := by
  simp only [step, fetch, h, decode_kbdEmit, exec, execKbdEmit]

end Sys2Proof.Machine
end

