-- ==== Sys2Proof/Tests/Slice0.lean ====
section
/-! SUPPORT. Tests of single operations, with results taken from the spec's encoding tables and worked vectors
(spec/30_encoding.md, 95_test_vectors.md), and a witness for the hypotheses of each statement that has some. -/

namespace Sys2Proof.Tests

open Sys2Proof.Machine

/-! ## Ill-formed instructions are refused by the check -/

theorem test_wf_sunCommands :
    (Instr.skOther .A 0x01).wf = false ∧ (Instr.skOther .A 0x07).wf = false ∧
    (Instr.skOther .B 0x0E).wf = false ∧ (Instr.skOther .B 0x0F).wf = false ∧
    (Instr.skOther .A 0x02).wf = true := by decide

theorem test_wf_kbdCommands :
    (Instr.kbdOther 0x00).wf = false ∧ (Instr.kbdOther 0xED).wf = false ∧
    (Instr.kbdOther 0xFF).wf = false ∧ (Instr.kbdOther 0xF1).wf = true := by decide

theorem test_wf_auxCommands :
    (Instr.auxOther 0xE6).wf = false ∧ (Instr.auxOther 0xEC).wf = false ∧
    (Instr.auxOther 0xFF).wf = false ∧ (Instr.auxOther 0xED).wf = true := by decide

theorem test_wf_wrapEcho :
    (Instr.auxWrapEcho 0xEC).wf = false ∧ (Instr.auxWrapEcho 0xFF).wf = false ∧
    (Instr.auxWrapEcho 0xF4).wf = true := by decide

/-! ## Decoding: one word for every instruction, written out from its row -/

/-- Both channels with a pointer, a role, a transmit enable and a LED latch; nothing awaited. -/
def proto (sel : BitVec 4) (role : Role) (tx latch : Bool) : Protocol :=
  let x : ChanPhase := { sel := sel, role := role, txEnabled := tx, ledLatch := latch }
  { chA := x, chB := x, kbdArg := none, auxArg := none, wrap := false, itShift := 0 }

/-- Both pointers at `sel`, serial channels. -/
def ptrAt (sel : BitVec 4) : Protocol := proto sel .serial false false

/-- Keyboard channels with transmit enabled. -/
def sun (latch : Bool) : Protocol := proto 0 .keyboard true latch

/-- Format CW0 (R111): bits 5:3 the command. -/
theorem test_decode_cw0 :
    decode (ptrAt 0) (.esccWrite 2 1 0b01000101) = .instr (.cmdNull .A 1 5) ∧
    decode (ptrAt 0) (.esccWrite 0 1 0b00001100) = .instr (.cmdHi .B 0 4) ∧
    decode (ptrAt 0) (.esccWrite 2 1 0b00010001) = .instr (.cmdUnassigned10 .A 0 1) ∧
    decode (ptrAt 0) (.esccWrite 2 1 0b00011010) = .instr (.cmdUnassigned18 .A 0 2) ∧
    decode (ptrAt 0) (.esccWrite 2 1 0b00100011) = .instr (.cmdUnassigned20 .A 0 3) ∧
    decode (ptrAt 0) (.esccWrite 2 1 0b10101100) = .instr (.cmdClrTxint .A 2 4) ∧
    decode (ptrAt 0) (.esccWrite 0 1 0b00110111) = .instr (.cmdUnassigned30 .B 0 7) ∧
    decode (ptrAt 0) (.esccWrite 0 1 0b00111000) = .instr (.cmdClrIus .B 0 0) := by decide

/-- Format CWn (R112): the whole byte, whatever it looks like. -/
theorem test_decode_cwn :
    decode (ptrAt 1) (.esccWrite 2 1 0x38) = .instr (.wr1 .A 0x38) ∧
    decode (ptrAt 2) (.esccWrite 0 1 0x28) = .instr (.wr2 .B 0x28) ∧
    decode (ptrAt 3) (.esccWrite 2 1 0xC1) = .instr (.wr3 .A 0xC1) ∧
    decode (ptrAt 4) (.esccWrite 2 1 0x44) = .instr (.wr4 .A 0x44) ∧
    decode (ptrAt 5) (.esccWrite 2 1 0x68) = .instr (.wr5 .A 0x68) ∧
    decode (ptrAt 6) (.esccWrite 0 1 0x16) = .instr (.wr6 .B 0x16) ∧
    decode (ptrAt 7) (.esccWrite 0 1 0x7E) = .instr (.wr7 .B 0x7E) ∧
    decode (ptrAt 8) (.esccWrite 2 1 0x41) = .instr (.wr8 .A 0x41) := by decide

theorem test_decode_cwn_high :
    decode (ptrAt 10) (.esccWrite 2 1 0x60) = .instr (.wr10 .A 0x60) ∧
    decode (ptrAt 11) (.esccWrite 2 1 0x50) = .instr (.wr11 .A 0x50) ∧
    decode (ptrAt 12) (.esccWrite 2 1 0x0E) = .instr (.wr12Brglo .A 0x0E) ∧
    decode (ptrAt 13) (.esccWrite 0 1 0xA5) = .instr (.wr13Brghi .B 0xA5) ∧
    decode (ptrAt 14) (.esccWrite 0 1 0x30) = .instr (.wr14 .B 0x30) ∧
    decode (ptrAt 15) (.esccWrite 2 1 0x78) = .instr (.wr15 .A 0x78) := by decide

/-- Format CW9 (R113): bits 7:6 the reset code. -/
theorem test_decode_cw9 :
    decode (ptrAt 9) (.esccWrite 2 1 0b00010000) = .instr (.wr9Store .A 0b010000) ∧
    decode (ptrAt 9) (.esccWrite 0 1 0b01000000) = .instr (.wr9RstB .B 0) ∧
    decode (ptrAt 9) (.esccWrite 2 1 0b10000011) = .instr (.wr9RstA .A 3) ∧
    decode (ptrAt 9) (.esccWrite 2 1 0b11111111) = .instr (.wr9RstAll .A 63) := by decide

/-- Format CR (R173): the register the pointer selects. -/
theorem test_decode_cr :
    decode (ptrAt 0) (.esccRead 2 1) = .instr (.rr0 .A) ∧ decode (ptrAt 1) (.esccRead 0 1) = .instr (.rr1 .B) ∧
    decode (ptrAt 2) (.esccRead 2 1) = .instr (.rr2 .A) ∧ decode (ptrAt 3) (.esccRead 0 1) = .instr (.rr3 .B) ∧
    decode (ptrAt 4) (.esccRead 2 1) = .instr (.rr4 .A) ∧ decode (ptrAt 5) (.esccRead 0 1) = .instr (.rr5 .B) ∧
    decode (ptrAt 6) (.esccRead 2 1) = .instr (.rr6 .A) ∧ decode (ptrAt 7) (.esccRead 0 1) = .instr (.rr7 .B) :=
  by decide

theorem test_decode_cr_high :
    decode (ptrAt 8) (.esccRead 2 1) = .instr (.rr8 .A) ∧ decode (ptrAt 9) (.esccRead 0 1) = .instr (.rr9 .B) ∧
    decode (ptrAt 10) (.esccRead 2 1) = .instr (.rr10 .A) ∧
    decode (ptrAt 11) (.esccRead 0 1) = .instr (.rr11 .B) ∧
    decode (ptrAt 12) (.esccRead 2 1) = .instr (.rr12 .A) ∧
    decode (ptrAt 13) (.esccRead 0 1) = .instr (.rr13 .B) ∧
    decode (ptrAt 14) (.esccRead 2 1) = .instr (.rr14 .A) ∧
    decode (ptrAt 15) (.esccRead 0 1) = .instr (.rr15 .B) := by decide

/-- Formats DW and DR (R114). -/
theorem test_decode_dw :
    decode (ptrAt 0) (.esccWrite 3 1 0x41) = .instr (.dwSerial .A 0x41) ∧
    decode (proto 0 .mouse true false) (.esccWrite 1 1 0x0E) = .instr (.dwMouse .B 0x0E) ∧
    decode (proto 0 .keyboard false true) (.esccWrite 3 1 0x01) = .instr (.dwKbdTxoff .A 0x01) ∧
    decode (sun false) (.esccWrite 3 1 0x01) = .instr (.skReset .A) ∧
    decode (sun false) (.esccWrite 1 1 0x07) = .instr (.skLayout07 .B) ∧
    decode (sun false) (.esccWrite 3 1 0x0E) = .instr (.skSetLeds .A) ∧
    decode (sun false) (.esccWrite 3 1 0x0F) = .instr (.skLayout0F .A) ∧
    decode (sun false) (.esccWrite 3 1 0x02) = .instr (.skOther .A 0x02) ∧
    decode (sun true) (.esccWrite 3 1 0x01) = .instr (.skLedMask .A 0x01) ∧
    decode (sun false) (.esccRead 1 1) = .instr (.dr .B) := by decide

/-- Format EV of the ESCC. -/
theorem test_decode_ev :
    decode (ptrAt 0) (.receive 1 0x31) = .instr (.receive .A 0x31) ∧
    decode (ptrAt 0) (.receiveBreak 0) = .instr (.receiveBreak .B) ∧
    decode (ptrAt 0) (.keyEvent 1 .capsLock true) = .instr (.keyEvent .A .capsLock true) ∧
    decode (ptrAt 0) (.mouseEvent 0 5 (-3) 1 0x02) = .instr (.mouseEvent .B 5 (-3) 1 0x02) ∧
    decode (ptrAt 0) .esccReset = .instr .esccReset := by decide

/-- The keyboard's command bytes (R124). -/
theorem test_decode_kbd :
    decode (ptrAt 0) (.kbdWrite 0x00) = .instr .kbd00 ∧ decode (ptrAt 0) (.kbdWrite 0x05) = .instr .kbd05 ∧
    decode (ptrAt 0) (.kbdWrite 0xED) = .instr .kbdSetLeds ∧
    decode (ptrAt 0) (.kbdWrite 0xEE) = .instr .kbdEcho ∧
    decode (ptrAt 0) (.kbdWrite 0xF0) = .instr .kbdScancode ∧
    decode (ptrAt 0) (.kbdWrite 0xF2) = .instr .kbdGetId ∧
    decode (ptrAt 0) (.kbdWrite 0xF3) = .instr .kbdSetRate ∧
    decode (ptrAt 0) (.kbdWrite 0xF4) = .instr .kbdEnable ∧
    decode (ptrAt 0) (.kbdWrite 0xF5) = .instr .kbdResetDisable ∧
    decode (ptrAt 0) (.kbdWrite 0xF6) = .instr .kbdResetEnable ∧
    decode (ptrAt 0) (.kbdWrite 0xFF) = .instr .kbdResetCmd ∧
    decode (ptrAt 0) (.kbdWrite 0xF7) = .instr (.kbdOther 0xF7) := by decide

/-- Its argument bytes, whatever their value (R117), its read and its events. -/
theorem test_decode_kbd_rest :
    decode { ptrAt 0 with kbdArg := some .scancode } (.kbdWrite 0xFF) = .instr (.kbdArgScancode 0xFF) ∧
    decode { ptrAt 0 with kbdArg := some .setLeds } (.kbdWrite 0xED) = .instr (.kbdArgSetLeds 0xED) ∧
    decode { ptrAt 0 with kbdArg := some .setRate } (.kbdWrite 0x2B) = .instr (.kbdArgSetRate 0x2B) ∧
    decode (ptrAt 0) .kbdRead = .instr .kbdRead ∧ decode (ptrAt 0) (.kbdEmit 0x9E) = .instr (.kbdEmit 0x9E) ∧
    decode (ptrAt 0) (.kbdSetTranslate true) = .instr (.kbdSetTranslate true) ∧
    decode (ptrAt 0) .kbdReset = .instr .kbdReset := by decide

/-- The mouse's command bytes (R125). -/
theorem test_decode_aux :
    decode (ptrAt 0) (.mouseWrite 0xE6) = .instr .auxSetScale11 ∧
    decode (ptrAt 0) (.mouseWrite 0xE7) = .instr .auxSetScale21 ∧
    decode (ptrAt 0) (.mouseWrite 0xE8) = .instr .auxSetRes ∧
    decode (ptrAt 0) (.mouseWrite 0xE9) = .instr .auxGetScale ∧
    decode (ptrAt 0) (.mouseWrite 0xEA) = .instr .auxSetStream ∧
    decode (ptrAt 0) (.mouseWrite 0xEB) = .instr .auxPoll ∧
    decode (ptrAt 0) (.mouseWrite 0xEC) = .instr .auxResetWrap ∧
    decode (ptrAt 0) (.mouseWrite 0xEE) = .instr .auxSetWrap ∧
    decode (ptrAt 0) (.mouseWrite 0xF0) = .instr .auxSetRemote := by decide

theorem test_decode_aux_high :
    decode (ptrAt 0) (.mouseWrite 0xF2) = .instr .auxGetType ∧
    decode (ptrAt 0) (.mouseWrite 0xF3) = .instr .auxSetSample ∧
    decode (ptrAt 0) (.mouseWrite 0xF4) = .instr .auxEnableDev ∧
    decode (ptrAt 0) (.mouseWrite 0xF5) = .instr .auxDisableDev ∧
    decode (ptrAt 0) (.mouseWrite 0xF6) = .instr .auxSetDefault ∧
    decode (ptrAt 0) (.mouseWrite 0xFF) = .instr .auxReset ∧
    decode (ptrAt 0) (.mouseWrite 0x55) = .instr (.auxOther 0x55) := by decide

/-- Wrap mode (R291): the argument test comes first, 0xFF passes the filter. -/
theorem test_decode_aux_rest :
    decode { ptrAt 0 with wrap := true } (.mouseWrite 0xEC) = .instr .auxWrapExit ∧
    decode { ptrAt 0 with wrap := true } (.mouseWrite 0xF4) = .instr (.auxWrapEcho 0xF4) ∧
    decode { ptrAt 0 with wrap := true } (.mouseWrite 0xFF) = .instr .auxReset ∧
    decode { ptrAt 0 with auxArg := some .setRes, wrap := true } (.mouseWrite 0xEC) =
      .instr (.auxArgSetRes 0xEC) ∧
    decode { ptrAt 0 with auxArg := some .setSample } (.mouseWrite 0xC8) = .instr (.auxArgSetSample 0xC8) ∧
    decode (ptrAt 0) .mouseRead = .instr .mouseRead ∧
    decode (ptrAt 0) (.ps2MouseEvent 5 3 0 0x01) = .instr (.ps2MouseEvent 5 3 0 0x01) ∧
    decode (ptrAt 0) .mouseReset = .instr .mouseReset := by decide

/-- The contract's refusals at their boundaries (R341), and an access outside the window (R92). -/
theorem test_decode_refusals :
    decode (ptrAt 0) (.esccWrite 3 2 0x00) = .refused .accessSize ∧
    decode (ptrAt 0) (.esccRead 0 0) = .refused .accessSize ∧
    decode (ptrAt 0) (.receive 2 0x00) = .refused .channelIndex ∧
    decode (ptrAt 0) (.esccWrite 3 1 256) = .refused .valueRange ∧
    decode (ptrAt 0) (.kbdEmit 256) = .refused .valueRange ∧
    decode (ptrAt 0) (.esccWrite 4 1 0) = .elsewhere := by decide

/-- A bare table byte in the context of log 9. -/
theorem test_tableWord :
    decodeTableWord 8 0x08 = some (.cmdHi .A 0 0) ∧ decodeTableWord 8 0x40 = some (.wr9RstB .A 0) ∧
    decodeTableWord 8 0x01 = some (.skReset .A) ∧ decodeTableWord 8 0xF2 = some .kbdGetId ∧
    decodeTableWord 8 0xEB = some .auxPoll := by decide

/-! ## Effects of single operations -/

/-- A state after an instruction, looked at through `f`; none where it does not complete. -/
def look {α : Type} (i : Instr) (s : State) (f : State → α) : Option α :=
  match exec i s with
  | .next t => some (f t)
  | .fault _ | .refused _ => none

/-- Where the spec's vectors start (95_test_vectors.md): power-on with both channels serial, neither disabled,
`IT_SHIFT = 0` and `CLOCK_HZ = 4915200`. -/
def start : State := State.powerOn 0 4915200 (fun _ => .serial) (fun _ => false)

/-- Power-on with channel A in a given role. -/
def withRole (role : Role) : State := { start with chA := Channel.reset role false }

/-- V30 before its fourth row: a byte received and unread, a transmit pending behind it. -/
def busyA : State :=
  { start with
    chA := { Channel.reset .serial false with
      rxPending := true, rxIUS := true, txPending := true, rx := 0x31,
      rr := #v[0x45, 0x07, 0, 0x20, 0, 0, 0, 0, 0, 0, 0, 0, 0, 0, 0, 0] }
    chB := { Channel.reset .serial false with
      rr := #v[0x44, 0x07, 0x0C, 0, 0, 0, 0, 0, 0, 0, 0, 0, 0, 0, 0, 0] } }

/-- The interrupt columns of V30's table for channel A. -/
def columns (t : State) : List Bool × List Byte :=
  ([t.chA.rxPending, t.chA.rxIUS, t.chA.txPending, t.chA.txIUS], [t.chA.rr[0], t.chB.rr[2], t.chA.rr[3]])

/-- T10. -/
theorem test_pointHigh : look (.cmdHi .A 0 4) start (·.chA.sel) = some 12 := by decide

/-- V16: 0xC0 in Idle is no reset. -/
theorem test_idleC0 : look (.cmdNull .A 3 0) start (fun t => (t.chA.sel, t.chA.wr[4])) = some (0, 0x04) := by
  decide

/-- T3 and V30, row `wc A, 0x38`. -/
theorem test_clearIus :
    look (.cmdClrIus .A 0 0) busyA columns = some ([true, false, true, true], [0x45, 0x08, 0x30]) := by decide

/-- V30, row `rd A`: the state before it is that after `wc A, 0x38`. -/
theorem test_dataRead : look (.dr .A) busyA columns = some ([false, false, true, true], [0x44, 0x08, 0x10]) := by
  decide

/-- V17 and R349: with a receive pending, ClearTx runs SetRx again. -/
theorem test_clearTxint :
    look (.cmdClrTxint .A 0 4) busyA (fun t => (columns t, t.chA.sel)) =
      some (([true, true, false, false], [0x45, 0x0C, 0x20]), 4) := by decide

/-- V30, row `rxb A, 0x31`. -/
theorem test_receive :
    look (.receive .A 0x31) start columns = some ([true, true, false, false], [0x45, 0x0C, 0x20]) := by decide

/-- V38: the wrong role. -/
theorem test_receive_keyboard :
    look (.receive .A 0x55) (withRole .keyboard) columns = some ([false, false, false, false], [0x44, 0, 0]) := by
  decide

/-- V35. -/
theorem test_break :
    look (.receiveBreak .A) start (fun t => (t.chA.rr[0], t.irqLine)) = some (0xC4, true) := by decide

/-- V32: with transmit disabled nothing is sent, yet the transmit interrupt is pending. -/
theorem test_dataWrite :
    look (.dwSerial .A 0x41) start (fun t => (columns t, t.out)) =
      some (([false, false, true, true], [0x44, 0x08, 0x10]), []) := by decide

/-- V29g: 0x44 in WR4 announces 153600 baud on a serial channel. -/
theorem test_wr4 :
    look (.wr4 .A 0x44) start (·.out) =
      some [.parametersChanged .A { baud := 153600, parity := .none, dataBits := 5, stopBits := 1 }] := by decide

/-- V28 and V29b. -/
theorem test_lineParameters :
    deriveLineParameters 4915200 #v[0, 0, 0, 0, 0x4F, 0x68, 0, 0, 0, 0, 0, 0, 0x1E, 0, 0, 0] =
      { baud := 9600, parity := .even, dataBits := 8, stopBits := 2 } ∧
    (deriveLineParameters 4915200 #v[0, 0, 0, 0, 0xC4, 0x60, 0, 0, 0, 0, 0, 0, 0xFF, 0xFF, 0, 0]).baud = 1 := by
  decide

/-- V11: WR12 is mirrored into RR12. -/
theorem test_wr12 :
    look (.wr12Brglo .A 0x0E) start (fun t => (t.chA.wr[12], t.chA.rr[12])) = some (0x0E, 0x0E) := by decide

/-- V13 and V15: the store, and the reset of the other channel, which keeps the writer's pointer. -/
theorem test_wr9 :
    look (.wr9Store .A 0x10) start (·.chA.wr[9]) = some 0x10 ∧
    look (.wr9RstB .A 0) { start with chA := { start.chA with sel := 9 } } (·.chA.sel) = some 9 := by
  decide

/-- V81: a reset of A clears A's reports, whatever B holds. -/
theorem test_wr9RstA : look (.wr9RstA .A 0) busyA columns = some ([false, false, false, false], [0x44, 0x0C, 0]) := by
  decide

/-- T4, and V10. -/
theorem test_rr0 :
    look (.rr0 .A) start (·.out) = some [.returned (.ctrl .A) 0x44] ∧
    look (.rr0 .A) { start with chA := Channel.reset .serial true } (·.out) =
      some [.returned (.ctrl .A) 0x7C] := by decide

/-- T8 and P2, step 5. -/
theorem test_sunReset :
    look (.skReset .A) (withRole .keyboard) (fun t => (t.chA.q.contents, columns t)) =
      some ([0xFF, 0x04, 0x7F], ([true, true, true, false], [0x45, 0x0C, 0x20])) := by decide

/-- V40. -/
theorem test_ledMask :
    look (.skLedMask .A 0x01) { withRole .keyboard with
      chA := { Channel.reset .keyboard false with ledLatch := true } } (fun t => (t.chA.ledLatch, t.chA.q.count)) =
      some (false, 0) := by decide

/-- V45, its second packet. -/
theorem test_sunMouse :
    look (.mouseEvent .A (-200) 200 0 0x07) (withRole .mouse) (·.chA.q.contents) =
      some [0x80, 0x81, 0x81, 0x00, 0x00] := by decide

/-- V42: the first edge is dropped where it is a release. -/
theorem test_capsLock_release :
    look (.keyEvent .A .capsLock false) (withRole .keyboard) (fun t => (t.chA.capsPhase, t.chA.q.count)) =
      some (.released, 0) := by decide

/-- V50. -/
theorem test_getId :
    look .kbdGetId start (·.kbd.q.contents) = some [0xFA, 0xAB, 0x83] := by decide

/-- P5, step 1: two bytes (90_conflicts.md C4). -/
theorem test_kbdReset :
    look .kbdResetCmd start (fun t => (t.kbd.q.contents, t.kbd.scanEnabled, t.out)) =
      some ([0xFA, 0xAA], true, [.kbdIrq false, .kbdIrq true, .kbdIrq true]) := by decide

/-- T13 and V54. -/
theorem test_scancodeArgument :
    look (.kbdArgScancode 0) start (·.kbd.q.contents) = some [0x41] ∧
    look (.kbdArgScancode 7) start (fun t => (t.kbd.q.contents, t.kbd.scancodeSet)) =
      some ([0xFA], .set2) := by decide

/-- V51: set 1 passes a release through. -/
theorem test_emit_set1 :
    look (.kbdEmit 0x9E) { start with kbd := { start.kbd with scancodeSet := .set1 } }
      (·.kbd.q.contents) = some [0x9E] := by decide

/-- T14: set 2 puts the break prefix first. -/
theorem test_emit_set2 :
    look (.kbdEmit 0x9E) start (·.kbd.q.contents) = some [0xF0, Config.rawSet2 0x1E] := rfl

/-- V5: a read of an empty queue. -/
theorem test_kbdRead_empty :
    look .kbdRead start (·.out) = some [.kbdIrq false, .returned .kbd 0x00] := by decide

/-- A PS/2 mouse with a variant, enabled. -/
def mouseOn (mtype : MouseType) : State :=
  { start with mouse := { Mouse.reset with status := 0x20, mtype := mtype } }

/-- V61 and V60. -/
theorem test_mouseEvent :
    look (.ps2MouseEvent 5 3 0 0x01) (mouseOn .plain) (·.mouse.q.contents) = some [0x29, 0x05, 0xFD] ∧
    look (.ps2MouseEvent 5 5 0 0x01) start (fun t => (t.mouse.q.count, t.mouse.buttons)) = some (0, 0) := by
  decide

/-- V62: three packets for a motion of -300. -/
theorem test_mouseEvent_long :
    look (.ps2MouseEvent (-300) 0 0 0x01) (mouseOn .plain) (·.mouse.q.contents) =
      some [0x19, 0x81, 0x00, 0x19, 0x81, 0x00, 0x19, 0xD2, 0x00] := by decide

/-- V70: a wheel of 9 takes two packets of the IMEX variant. -/
theorem test_mouseEvent_imex :
    look (.ps2MouseEvent 0 0 9 0x08) (mouseOn .imex) (·.mouse.q.contents) =
      some [0x08, 0x00, 0x00, 0x17, 0x08, 0x00, 0x00, 0x12] := by decide

/-- V67. -/
theorem test_poll : look .auxPoll start (·.mouse.q.contents) = some [0xFA, 0x08, 0x00, 0x00] := by decide

/-- V68, the reset inside wrap mode, which it does not leave. -/
theorem test_auxReset :
    look .auxReset { start with mouse := { Mouse.reset with wrap := true, mtype := .imex } }
      (fun t => (t.mouse.q.contents, t.mouse.sampleRate, t.mouse.resolution, t.mouse.wrap, t.mouse.mtype)) =
      some ([0xFA, 0xAA, 0x00], 100, 2, true, .plain) := by decide

/-- T7, the last byte of each sequence. -/
theorem test_detect :
    look (.auxArgSetSample 80) { start with mouse := { Mouse.reset with detectState := 2 } }
      (·.mouse.mtype) = some .imps2 ∧
    look (.auxArgSetSample 80) { start with mouse := { Mouse.reset with detectState := 3 } }
      (·.mouse.mtype) = some .imex ∧
    look (.auxArgSetSample 79) { start with mouse := { Mouse.reset with detectState := 2 } }
      (fun t => (t.mouse.mtype, t.mouse.detectState)) = some (.plain, 0) := by decide

/-- V73. -/
theorem test_getScale :
    look .auxGetScale { start with mouse := { Mouse.reset with sampleRate := 100, resolution := 2 } }
      (·.mouse.q.contents) = some [0xFA, 0x00, 0x02, 0x64] := by decide

/-- T1: a full queue drops what is pushed. -/
theorem test_queue_drop :
    ((pushKbdAll (List.replicate 18 0x5A) start).kbd.q.count,
      (pushKbdAll (List.replicate 18 0x5A) start).out.length) = (16, 16) := by decide

/-! ## Witnesses: the hypotheses of the statements are met together -/

/-- `DecodeEncode`. -/
theorem witness_decodeEncode :
    (Instr.skOther .A 0x02).wf = true ∧ (Instr.skOther .A 0x02).when (sun false) = true := by decide

/-- `EncodeDecode`, at the last alias of a window of stride 4. -/
theorem witness_encodeDecode :
    decode { ptrAt 0 with itShift := 2 } (.esccWrite 11 1 0x2C) = .instr (.cmdClrTxint .A 0 4) := by decide

/-- `EveryByteHasAnEffect`: both operations are in the list. -/
theorem witness_everyByte :
    writeOp 0 (.ctrl .A) 0xFF ∈ [writeOp 0 (.ctrl .A) 0xFF, readOp 0 (.ctrl .A)] ∧
    readOp 0 .kbd ∈ [writeOp 0 .kbd 0x00, readOp 0 .kbd] := by decide

/-- `AddressMap`, at the highest alias for strides 1 and 4. -/
theorem witness_addressMap : 0 < 2 ^ 0 ∧ 3 < 2 ^ 2 := by decide

/-- `StepRunsDecodedInstruction`. -/
theorem witness_stepRuns :
    (present (.kbdWrite 0xF4) start).inputs = .kbdWrite 0xF4 :: [] ∧
    decode (present (.kbdWrite 0xF4) start).protocol (.kbdWrite 0xF4) = .instr .kbdEnable := by decide

/-- `StepWithoutInstruction`, each clause. -/
theorem witness_stepWithout :
    start.inputs = [] ∧ decode start.protocol (.esccRead 4 1) = .elsewhere ∧
    decode start.protocol (.esccRead 3 2) = .refused .accessSize ∧
    (present (.esccRead 4 1) start).inputs = .esccRead 4 1 :: [] := by decide

/-- `ControlRead`. -/
theorem witness_controlRead :
    (present (readOp 0 (.ctrl .B)) start).inputs =
      readOp (present (readOp 0 (.ctrl .B)) start).params.itShift (.ctrl .B) :: [] := by decide

/-- `LatchedWriteStoresOnce`: any byte at 1 and 15, a byte without a reset code at 9. -/
theorem witness_latchedWrite :
    (1 : BitVec 4) ≠ 0 ∧ ¬((1 : BitVec 4) = 9 ∧ (0xFF : Byte) &&& 0xC0 ≠ 0) ∧
    (15 : BitVec 4) ≠ 0 ∧ ¬((15 : BitVec 4) = 9 ∧ (0xFF : Byte) &&& 0xC0 ≠ 0) ∧
    ¬((9 : BitVec 4) = 9 ∧ (0x3F : Byte) &&& 0xC0 ≠ 0) ∧
    ({ Channel.reset .serial false with sel := 9 } : Channel).sel ≠ 0 := by decide

/-- `SequencingState` and `Isolation`: instructions of each device that complete. -/
theorem witness_completes :
    (∃ t, exec (.wr5 .A 0x08) start = .next t) ∧ (∃ t, exec .kbdScancode start = .next t) ∧
    ∃ t, exec .auxSetWrap start = .next t := ⟨⟨_, rfl⟩, ⟨_, rfl⟩, ⟨_, rfl⟩⟩

/-- `Isolation`, each clause. -/
theorem witness_isolation :
    Instr.kbd00.device ≠ .escc ∧ Instr.auxPoll.device ≠ .kbd ∧ Instr.esccReset.device ≠ .mouse ∧
    (Instr.dr .B).channel = some .B := by decide

/-- `TransportCallbacks` and `ReceiveGate`. -/
theorem witness_serial : (start.chan .A).role = .serial := by decide

/-- `WrongRoleIgnored`, each clause. -/
theorem witness_wrongRole :
    ((withRole .keyboard).chan .A).role ≠ .serial ∧ ((withRole .mouse).chan .A).role ≠ .keyboard ∧
    ((withRole .serial).chan .A).role ≠ .mouse := by decide

/-- `KeyEventQueues`, with a lock key whose edge passes and one whose edge is dropped. -/
theorem witness_keyEvent :
    ((withRole .keyboard).chan .A).role = .keyboard ∧ ((withRole .keyboard).chan .A).q.wf = true ∧
    ((withRole .keyboard).chan .A).capsPhase ≠ .pressed ∧
    ((withRole .keyboard).chan .A).numPhase = .released := by decide

/-- `MouseEventQueues`. -/
theorem witness_mouseEvent :
    ((withRole .mouse).chan .A).role = .mouse ∧ ((withRole .mouse).chan .A).q.wf = true := by decide

/-- A PS/2 queue of `n` bytes. -/
def queueOf (n : Nat) : ByteQueue Config.ps2Qcap :=
  { ByteQueue.empty Config.ps2Qcap with wptr := Fin.ofNat _ n, count := n }

/-- A state with `n` bytes queued in each PS/2 device. -/
def queued (n : Nat) : State :=
  { start with
    kbd := { Keyboard.reset with q := queueOf n, irq := n != 0 }
    mouse := { Mouse.reset with q := queueOf n, irq := n != 0 } }

/-- The statements about the PS/2 keyboard, with an empty, an almost full and a full queue. -/
theorem witness_kbdSound :
    (queued 0).kbd.Sound ∧ (queued 15).kbd.Sound ∧ (queued 16).kbd.Sound :=
  ⟨⟨by decide, by decide⟩, ⟨by decide, by decide⟩, ⟨by decide, by decide⟩⟩

/-- The statements about the PS/2 mouse. -/
theorem witness_mouseSound :
    (queued 0).mouse.Sound ∧ (queued 15).mouse.Sound ∧ (queued 16).mouse.Sound :=
  ⟨⟨by decide, by decide, by decide⟩, ⟨by decide, by decide, by decide⟩, ⟨by decide, by decide, by decide⟩⟩

/-- `queued 15` with a key presented and another operation behind it. -/
def keyPresented : State := { queued 15 with inputs := ps2KeyOps .capsLock true ++ [.kbdRead] }

/-- `KeyboardKeyEvent`, with one slot free. -/
theorem witness_keyboardKeyEvent :
    keyPresented.kbd.Sound ∧ keyPresented.inputs = ps2KeyOps .capsLock true ++ [.kbdRead] :=
  ⟨⟨by decide, by decide⟩, rfl⟩

/-- `PushesFillQueues`, its clause for a channel: a full queue. -/
theorem witness_channelQueue :
    ({ ByteQueue.empty Config.esccQcap with count := 256 } : ByteQueue Config.esccQcap).wf = true ∧
    (start.chan .B).q.wf = true := by decide

/-- `MouseEventQuiet`, each clause: not enabled; remote mode; nothing to report. -/
theorem witness_mouseEventQuiet :
    start.mouse.status[5] = false ∧
    ((0x60 : Byte)[5] = true ∧ (0x60 : Byte)[6] = true) ∧
    (mouseOn .plain).mouse.status[5] = true ∧ (mouseOn .plain).mouse.dx + 0 = 0 ∧
    (mouseOn .plain).mouse.dy + 0 = 0 ∧ (mouseOn .plain).mouse.dz + 0 = 0 ∧
    (mouseOn .plain).mouse.buttons = 0x00 := by decide

/-- An enabled mouse with `n` bytes queued. -/
def mouseQueued (n : Nat) : State :=
  { start with mouse := { (mouseOn .plain).mouse with q := queueOf n, irq := n != 0 } }

/-- `MouseEventStream`, where one more packet just fits (13 bytes queued) and where none does (14). -/
theorem witness_mouseEventStream :
    (mouseQueued 13).mouse.Sound ∧ (mouseQueued 14).mouse.Sound ∧ (mouseQueued 13).mouse.status[5] = true ∧
    (mouseQueued 13).mouse.status[6] = false ∧ (mouseQueued 14).mouse.status[5] = true ∧
    (mouseQueued 14).mouse.status[6] = false ∧ ¬((mouseQueued 13).mouse.dx + 3 = 0) ∧
    ¬((mouseQueued 14).mouse.dx + 3 = 0) :=
  ⟨⟨by decide, by decide, by decide⟩, ⟨by decide, by decide, by decide⟩, by decide, by decide, by decide,
    by decide, by decide, by decide⟩

/-- `busyA` with a data-port read presented. -/
def busyStep : State := present (.esccRead 3 1) busyA

/-- `StepKeepsSound`: a sound state with a receive under service, from which a step answers. -/
theorem witness_stepKeepsSound : busyStep.Sound ∧ ∃ t, step busyStep = .next t := by
  refine ⟨⟨⟨?_, ?_, ?_, ?_, ?_, ?_, ?_, ?_, ?_, ?_, ?_, ?_⟩, ⟨?_, ?_, ?_, ?_, ?_, ?_, ?_, ?_, ?_, ?_, ?_, ?_⟩,
    ⟨?_, ?_⟩, ⟨?_, ?_, ?_⟩⟩, ⟨_, rfl⟩⟩
  all_goals decide

end Sys2Proof.Tests
end

section
/-! PROOFS. The step runs what it decodes (spec/00_scope.md R7, 20_memory.md R87), and the state after power-on
and after reset is sound (70 R396). -/

namespace Sys2Proof.Machine

/-! ## Fetching and the step -/

/-- What is fetched is the first presented operation, decoded in the present protocol state (20 R89). -/
theorem fetch_of_inputs_cons {s : State} {o : Op} {rest : List Op} (h : s.inputs = o :: rest) :
    fetch s = .op (decode s.protocol o) rest := by
  simp only [fetch, h]

/-- A step whose fetched operation is an instruction is that instruction's `exec`, with `inputs` cut down to the
operations behind it. -/
theorem step_of_fetch_instr {s : State} {i : Instr} {rest : List Op} (h : fetch s = .op (.instr i) rest) :
    step s =
      match exec i s with
      | .next t => .next { t with inputs := rest }
      | .fault r => .fault r
      | .refused r => .refused r := by
  unfold step
  generalize fetch s = fetched at h ⊢
  subst h
  rfl

/-! ## Soundness of the reset values -/

@[simp] theorem ByteQueue.empty_wf (C : Nat) [NeZero C] : (ByteQueue.empty C).wf = true := by
  simp [ByteQueue.wf_iff, ByteQueue.empty]

/-- The read registers of R393 are those `ResetChannel` leaves (R391): the role does not show in them. -/
theorem Channel.reset_rr (role : Role) (disabled : Bool) :
    (Channel.reset role disabled).rr = resetRR disabled := by
  cases disabled <;> rfl

/-- Bits 6 to 1 of the reset value of RR0 are all its set bits. -/
theorem Channel.reset_rr0_masked (role : Role) (disabled : Bool) :
    (Channel.reset role disabled).rr[0] &&& 0x7E = statusReset disabled := by
  rw [Channel.reset_rr]
  revert disabled
  decide

/-- After a channel reset every read register but RR0 and RR1 is 0. -/
theorem Channel.reset_rr_eq_zero (role : Role) (disabled : Bool) (n : Fin 16) (hn : 2 ≤ n.val) :
    (Channel.reset role disabled).rr[n] = 0x00 := by
  rw [Channel.reset_rr]
  revert disabled n
  decide

/-- The reset values of a channel (70 R393) are sound with any well-formed queue: the latches are off, WR9 holds
its reset value, RR2 and the unused read registers hold 0. -/
theorem Channel.reset_with_queue_sound (c : Chan) (role : Role) (disabled : Bool)
    (q : ByteQueue Config.esccQcap) (hq : q.wf = true) :
    Channel.Sound c { Channel.reset role disabled with q := q } where
  queue := hq
  rxLatch := fun h => h
  txLatch := fun h => h
  wr0 := rfl
  wr9 := .inl rfl
  status := Channel.reset_rr0_masked role disabled
  special := rfl
  vector := .inl rfl
  pending := BitVec.zero_and
  mirrorLo := rfl
  mirrorHi := rfl
  unused := fun n hn => Channel.reset_rr_eq_zero role disabled n (by omega)

theorem Channel.reset_sound (c : Chan) (role : Role) (disabled : Bool) :
    (Channel.reset role disabled).Sound c :=
  Channel.reset_with_queue_sound c role disabled _ (ByteQueue.empty_wf _)

theorem Keyboard.reset_sound : Keyboard.reset.Sound where
  queue := ByteQueue.empty_wf _
  line := rfl

theorem Mouse.reset_sound : Mouse.reset.Sound where
  queue := ByteQueue.empty_wf _
  line := rfl
  status := rfl

theorem powerOn_sound (itShift : Nat) (clockHz : ℕ+) (role : Chan → Role) (disabled : Chan → Bool) :
    (State.powerOn itShift clockHz role disabled).Sound where
  chA := Channel.reset_sound .A (role .A) (disabled .A)
  chB := Channel.reset_sound .B (role .B) (disabled .B)
  kbd := Keyboard.reset_sound
  mouse := Mouse.reset_sound

/-! ## The statements -/

/-- Settles O7: the fetch reads the decoded instruction, and the step runs what was fetched. -/
theorem stepRunsDecodedInstruction : Obligations.StepRunsDecodedInstruction := by
  intro s o rest i hinputs hdecode
  have hfetch : fetch s = .op (.instr i) rest := by rw [fetch_of_inputs_cons hinputs, hdecode]
  exact step_of_fetch_instr hfetch

/-- Settles O58: power-on is sound part by part, and reset is a power-on. -/
theorem resetIsSound : Obligations.ResetIsSound := by
  refine ⟨powerOn_sound, ?_⟩
  rw [reset_eq_powerOn]
  exact powerOn_sound _ _ _ _

end Sys2Proof.Machine
end

section
/-! PROOFS. Every step keeps the invariant of a sound state (spec/10_state.md R21, R25, R38, R43 to R48, R50, R54;
45_ps2_keyboard.md R270; 46_ps2_mouse.md R315): soundness of a channel register by register, then one lemma per
shared operation, then one arm per instruction. -/

namespace Sys2Proof.Machine

/-! ## Soundness of a channel, register by register -/

/-- Setting bits keeps a masked value that has them already. -/
theorem masked_or {v m k b : Byte} (hv : v &&& m = k) (hb : k ||| b &&& m = k) : (v ||| b) &&& m = k := by
  rw [BitVec.and_or_distrib_right, hv, hb]

/-- Clearing bits keeps a masked value that lacks them. -/
theorem masked_and {v m k b : Byte} (hv : v &&& m = k) (hb : k &&& b = k) : (v &&& b) &&& m = k := by
  rw [BitVec.and_assoc, BitVec.and_comm b, ← BitVec.and_assoc, hv, hb]

/-- What `Channel.Sound` says of everything but the read registers. -/
structure Channel.ControlSound (ch : Channel) : Prop where
  queue : ch.q.wf = true
  rxLatch : ch.rxIUS = true → ch.rxPending = true
  txLatch : ch.txIUS = true → ch.txPending = true
  wr0 : ch.wr[0] = 0x00
  wr9 : ch.wr[9] = 0xC0 ∨ ch.wr[9] &&& 0xC0 = 0x00

/-- The bits of RR3 that stay 0 on channel `x`: all but channel A's pending bits (10 R46, 60 R351). -/
def pendingMask : Chan → Byte
  | .A => 0xC9
  | .B => 0xFF

/-- What `Channel.Sound` lets read register `n` of channel `x` hold (10 R43 to R48). -/
def Channel.ReadSound (x : Chan) (ch : Channel) (n : Fin 16) (v : Byte) : Prop :=
  match n with
  | 0 => v &&& 0x7E = statusReset ch.disabled
  | 1 => v = 0x07
  | 2 => v = 0x00 ∨ ∃ hi, v = noIntVec hi ∨ v = rxVec x.sib hi ∨ v = txVec x.sib hi
  | 3 => v &&& pendingMask x = 0x00
  | 12 => v = ch.wr[12]
  | 13 => v = ch.wr[13]
  | _ => v = 0x00

theorem Channel.sound_iff {x : Chan} {ch : Channel} :
    ch.Sound x ↔ ch.ControlSound ∧ ∀ n, ch.ReadSound x n ch.rr[n] := by
  constructor
  · intro h
    refine ⟨⟨h.queue, h.rxLatch, h.txLatch, h.wr0, h.wr9⟩, fun n => ?_⟩
    unfold Channel.ReadSound
    split
    · exact h.status
    · exact h.special
    · exact h.vector
    · cases x <;> exact h.pending
    · exact h.mirrorLo
    · exact h.mirrorHi
    · exact h.unused n (by simp_all only [imp_false, Fin.ext_iff]; omega)
  · rintro ⟨hc, hr⟩
    refine ⟨hc.queue, hc.rxLatch, hc.txLatch, hc.wr0, hc.wr9, hr 0, hr 1, hr 2, ?_, hr 12, hr 13, fun n hn => ?_⟩
    · cases x <;> exact hr 3
    · have h := hr n
      unfold Channel.ReadSound at h
      split at h
      case h_7 => exact h
      all_goals simp at hn

theorem Channel.Sound.control {x : Chan} {ch : Channel} (h : ch.Sound x) : ch.ControlSound := (sound_iff.mp h).1

theorem Channel.Sound.read {x : Chan} {ch : Channel} (h : ch.Sound x) (n : Fin 16) : ch.ReadSound x n ch.rr[n] :=
  (sound_iff.mp h).2 n

/-- What a read register may hold rests on its channel's `disabled` and, for a mirror, on the register mirrored. -/
theorem Channel.ReadSound.congr {x : Chan} {ch ch' : Channel} {n : Fin 16} {v : Byte} (h : ch.ReadSound x n v)
    (hd : ch'.disabled = ch.disabled) (hwr : n = 12 ∨ n = 13 → ch'.wr[n] = ch.wr[n]) : ch'.ReadSound x n v := by
  unfold Channel.ReadSound at h ⊢
  split at h
  · rwa [hd]
  · exact h
  · exact h
  · exact h
  · exact h.trans (hwr (.inl rfl)).symm
  · exact h.trans (hwr (.inr rfl)).symm
  · exact h

/-- A channel stays sound where its registers and its parameter `disabled` stay. -/
theorem Channel.Sound.of_same_registers {x : Chan} {ch ch' : Channel} (h : ch.Sound x) (hc : ch'.ControlSound)
    (hwr : ch'.wr = ch.wr) (hrr : ch'.rr = ch.rr) (hd : ch'.disabled = ch.disabled) : ch'.Sound x :=
  sound_iff.mpr ⟨hc, fun n => hrr ▸ (h.read n).congr hd fun _ => by rw [hwr]⟩

/-- The store of a value its register may hold. -/
theorem Channel.Sound.setRR {x : Chan} {ch : Channel} (h : ch.Sound x) {k : Fin 16} {v : Byte}
    (hv : ch.ReadSound x k v) : (ch.setRR k v).Sound x := by
  refine sound_iff.mpr ⟨{ h.control with }, fun n => ?_⟩
  rw [setRR_rr, bank_get]
  split
  · next hn => exact hn ▸ hv
  · exact h.read n

theorem setWR_get_ne (ch : Channel) {k n : Fin 16} (h : n ≠ k) (v : Byte) : (ch.setWR k v).wr[n] = ch.wr[n] := by
  rw [setWR_wr, bank_get, if_neg h]

/-- A store to a write register never disturbs the latches or the queue; WR0 is never written, and a byte stored in
WR9 carries no reset code (10 R21, R38). -/
theorem Channel.ControlSound.setWR {ch : Channel} (h : ch.ControlSound) {k : Fin 16} {v : Byte} (h0 : k ≠ 0)
    (h9 : k = 9 → v &&& 0xC0 = 0x00) : (ch.setWR k v).ControlSound := by
  refine ⟨h.queue, h.rxLatch, h.txLatch, (setWR_get_ne ch h0.symm v).trans h.wr0, ?_⟩
  by_cases hk : k = 9
  · subst hk
    exact .inr (by simpa using h9 rfl)
  · have hget : (ch.setWR k v).wr[9] = ch.wr[9] := setWR_get_ne ch (Ne.symm hk) v
    rw [hget]
    exact h.wr9

/-- A store to a write register that has no mirror. -/
theorem Channel.Sound.setWR {x : Chan} {ch : Channel} (h : ch.Sound x) {k : Fin 16} {v : Byte} (h0 : k ≠ 0)
    (h9 : k = 9 → v &&& 0xC0 = 0x00) (h12 : k ≠ 12) (h13 : k ≠ 13) : (ch.setWR k v).Sound x := by
  refine sound_iff.mpr ⟨h.control.setWR h0 h9, fun n => (h.read n).congr rfl ?_⟩
  rintro (rfl | rfl)
  · exact setWR_get_ne ch h12.symm v
  · exact setWR_get_ne ch h13.symm v

/-- A store to WR12 or WR13 with its mirror (10 R47). -/
theorem Channel.Sound.setMirrored {x : Chan} {ch : Channel} (h : ch.Sound x) {k : Fin 16} (hk : k = 12 ∨ k = 13)
    (v : Byte) : ((ch.setWR k v).setRR k v).Sound x := by
  have hc : (ch.setWR k v).ControlSound :=
    h.control.setWR (by rintro rfl; simp at hk) (by rintro rfl; simp at hk)
  refine sound_iff.mpr ⟨{ hc with }, fun n => ?_⟩
  rw [setRR_rr, bank_get]
  split
  · next hn =>
    subst hn
    rcases hk with rfl | rfl <;> simp [Channel.ReadSound]
  · next hn => exact (h.read n).congr rfl fun _ => setWR_get_ne ch hn v

/-! ## Soundness through an effect on a channel -/

theorem State.Sound.chan {s : State} (h : s.Sound) (x : Chan) : (s.chan x).Sound x := by
  cases x
  · exact h.chA
  · exact h.chB

theorem State.Sound.of_chan {s : State} (hch : ∀ x, (s.chan x).Sound x) (hk : s.kbd.Sound) (hm : s.mouse.Sound) :
    s.Sound :=
  ⟨hch .A, hch .B, hk, hm⟩

theorem State.Sound.setChan {s : State} (h : s.Sound) {c : Chan} {ch : Channel} (hch : ch.Sound c) :
    (s.setChan c ch).Sound := by
  refine .of_chan (fun x => ?_) (by simpa using h.kbd) (by simpa using h.mouse)
  rw [chan_setChan]
  split
  · next hx => exact hx ▸ hch
  · exact h.chan x

theorem State.Sound.modChan {s : State} (h : s.Sound) {c : Chan} {f : Channel → Channel}
    (hf : (f (s.chan c)).Sound c) : (s.modChan c f).Sound :=
  h.setChan hf

/-- What read register `n` of channel `x` may hold in `s`. -/
def State.ReadSound (s : State) (x : Chan) (n : Fin 16) (v : Byte) : Prop := (s.chan x).ReadSound x n v

/-- An effect on a channel that keeps the write registers is sound where what it leaves in the channel and in the
read registers is. -/
theorem EsccEffect.sound {c : Chan} {s t : State} {ch : Channel} {rr : Chan → Fin 16 → Byte} {out : List Output}
    (h : EsccEffect c s t ch rr out) (hs : s.Sound) (hc : ch.ControlSound) (hwr : ch.wr = (s.chan c).wr)
    (hd : ch.disabled = (s.chan c).disabled) (hrr : ∀ x n, s.ReadSound x n (rr x n)) : t.Sound := by
  refine .of_chan (fun x => ?_) (by rw [h.rest]; exact hs.kbd) (by rw [h.rest]; exact hs.mouse)
  have hread : ∀ n, s.ReadSound x n (t.chan x).rr[n] := fun n => h.registers x n ▸ hrr x n
  rcases eq_or_eq_sib x c with rfl | rfl
  · rw [h.own]
    exact Channel.sound_iff.mpr
      ⟨{ hc with }, fun n => (hread n).congr hd fun _ => by rw [hwr]⟩
  · have hsib := (hs.chan c.sib).control
    rw [h.sibling]
    exact Channel.sound_iff.mpr
      ⟨{ hsib with }, hread⟩

/-- The registers after an operation on channel `c`: the four it may write hold sound values, the rest is kept. -/
theorem rrAfter_sound {s : State} (hs : s.Sound) {c : Chan} {r0 r1 vec pend : Byte} (h0 : s.ReadSound c 0 r0)
    (h1 : s.ReadSound c 1 r1) (hvec : s.ReadSound c.sib 2 vec) (hpend : s.ReadSound .A 3 pend) (x : Chan)
    (n : Fin 16) : s.ReadSound x n (rrAfter s c r0 r1 vec pend x n) := by
  unfold rrAfter
  split_ifs with h h h h
  · obtain ⟨rfl, rfl⟩ := h
    exact hvec
  · obtain ⟨rfl, rfl⟩ := h
    exact hpend
  · obtain ⟨rfl, rfl⟩ := h
    exact h0
  · obtain ⟨rfl, rfl⟩ := h
    exact h1
  · exact (hs.chan x).read n

/-! ### The values the operations leave in the read registers -/

section Values

variable {s : State} {v : Byte}

/-- The status bits an operation sets are receive-available and break, which are free, or transmit-empty, which is
set already (10 R43). -/
theorem Channel.ReadSound.or_status {x : Chan} {ch : Channel} {b : Byte} (h : ch.ReadSound x 0 v)
    (hb : ∀ d, statusReset d ||| b &&& 0x7E = statusReset d) : ch.ReadSound x 0 (v ||| b) :=
  masked_or h (hb _)

theorem Channel.ReadSound.and_status {x : Chan} {ch : Channel} {b : Byte} (h : ch.ReadSound x 0 v)
    (hb : ∀ d, statusReset d &&& b = statusReset d) : ch.ReadSound x 0 (v &&& b) :=
  masked_and h (hb _)

/-- `SPEC_ALLSENT` is set already (10 R44). -/
theorem Channel.ReadSound.or_special {x : Chan} {ch : Channel} (h : ch.ReadSound x 1 v) :
    ch.ReadSound x 1 (v ||| 0x01) := by
  have hv : v = 0x07 := h
  subst hv
  rfl

theorem readSound_noIntVec (c : Chan) (hi : Bool) : s.ReadSound c.sib 2 (noIntVec hi) := .inr ⟨hi, .inl rfl⟩

theorem readSound_rxVec (c : Chan) (hi : Bool) : s.ReadSound c.sib 2 (rxVec c hi) :=
  .inr ⟨hi, .inr (.inl (by rw [sib_sib]))⟩

theorem readSound_txVec (c : Chan) (hi : Bool) : s.ReadSound c.sib 2 (txVec c hi) :=
  .inr ⟨hi, .inr (.inr (by rw [sib_sib]))⟩

theorem State.ReadSound.or_rxPendingBit (h : s.ReadSound .A 3 v) (c : Chan) :
    s.ReadSound .A 3 (v ||| rxPendingBit c) :=
  masked_or h (by cases c <;> rfl)

theorem State.ReadSound.or_txPendingBit (h : s.ReadSound .A 3 v) (c : Chan) :
    s.ReadSound .A 3 (v ||| txPendingBit c) :=
  masked_or h (by cases c <;> rfl)

theorem State.ReadSound.and_pending (h : s.ReadSound .A 3 v) (b : Byte) : s.ReadSound .A 3 (v &&& b) :=
  masked_and h BitVec.zero_and

end Values

/-! ## The shared operations of a channel -/

section Ops

variable {s : State} (hs : s.Sound) (c : Chan)
include hs

theorem State.Sound.read (x : Chan) (n : Fin 16) : s.ReadSound x n (s.chan x).rr[n] := (hs.chan x).read n

/-- Neither the operations presented nor the outputs are part of the invariant. -/
theorem withTraces_sound (rest : List Op) (out : List Output) : { s with inputs := rest, out := out }.Sound :=
  ⟨hs.chA, hs.chB, hs.kbd, hs.mouse⟩

theorem emit_sound (o : Output) : (s.emit o).Sound := withTraces_sound hs _ _

theorem rrReceived_sound (x : Chan) (n : Fin 16) : s.ReadSound x n (rrReceived s c x n) :=
  rrAfter_sound hs (Channel.ReadSound.or_status (hs.read c 0) (by decide)) (hs.read c 1) (readSound_rxVec c _)
    ((hs.read .A 3).or_rxPendingBit c) x n

theorem rrTransmitted_sound (x : Chan) (n : Fin 16) : s.ReadSound x n (rrTransmitted s c x n) := by
  refine rrAfter_sound hs (Channel.ReadSound.or_status (hs.read c 0) (by decide))
    (Channel.ReadSound.or_special (hs.read c 1)) ?_ ?_ x n
  · split
    · exact hs.read c.sib 2
    · exact readSound_txVec c _
  · split
    · exact hs.read .A 3
    · exact (hs.read .A 3).or_txPendingBit c

theorem setRx_sound : (setRx c s).Sound := by
  have hc := (hs.chan c).control
  exact (setRx_effect c s).sound hs { hc with rxLatch := fun _ => rfl } rfl rfl <|
    rrAfter_sound hs (hs.read c 0) (hs.read c 1) (readSound_rxVec c _) ((hs.read .A 3).or_rxPendingBit c)

/-- A retired transmit hands over to a pending receive (60 R349). -/
theorem clearTx_sound : (clearTx c s).Sound := by
  have hc := (hs.chan c).control
  have hkept := (hs.read .A 3).and_pending (~~~(txPendingBit c))
  refine (clearTx_effect c s).sound hs { hc with rxLatch := fun h => ?_, txLatch := fun h => h } rfl rfl <|
    rrAfter_sound hs (hs.read c 0) (hs.read c 1) ?_ ?_
  · rcases (Bool.or_eq_true _ _).mp h with h | h
    · exact hc.rxLatch h
    · exact h
  · split
    · exact readSound_rxVec c _
    · exact readSound_noIntVec c _
  · split
    · exact hkept.or_rxPendingBit c
    · exact hkept

/-- A retired receive hands over to a pending transmit (60 R348). -/
theorem clearRx_sound : (clearRx c s).Sound := by
  have hc := (hs.chan c).control
  have hkept := (hs.read .A 3).and_pending (~~~(rxPendingBit c))
  refine (clearRx_effect c s).sound hs { hc with rxLatch := fun h => h, txLatch := fun h => ?_ } rfl rfl <|
    rrAfter_sound hs (hs.read c 0) (hs.read c 1) ?_ ?_
  · rcases (Bool.or_eq_true _ _).mp h with h | h
    · exact hc.txLatch h
    · exact h
  · split
    · exact readSound_txVec c _
    · exact readSound_noIntVec c _
  · split
    · exact hkept.or_txPendingBit c
    · exact hkept

/-- The cleared latch leaves its class pending, and a promoted transmit was pending (60 R350). -/
theorem clearIUS_sound : (clearIUS c s).Sound := by
  have hc := (hs.chan c).control
  refine (clearIUS_effect c s).sound hs { hc with rxLatch := nofun, txLatch := fun h => ?_ } rfl rfl <|
    rrAfter_sound hs (hs.read c 0) (hs.read c 1) ?_ ?_
  · rcases (Bool.or_eq_true _ _).mp ((Bool.and_eq_true _ _).mp h).2 with h | h
    · exact hc.txLatch h
    · exact h
  · split
    · exact readSound_txVec c _
    · exact hs.read c.sib 2
  · split
    · exact (hs.read .A 3).or_txPendingBit c
    · exact hs.read .A 3

theorem transmitDone_sound : (transmitDone c s).Sound := by
  have hc := (hs.chan c).control
  exact (transmitDone_effect c s).sound hs { hc with txLatch := fun _ => rfl } rfl rfl
    (rrTransmitted_sound hs c)

/-- A channel in which receive has become pending and under service, over any well-formed queue. -/
theorem EsccEffect.received_sound {t : State} {q : ByteQueue Config.esccQcap} {out : List Output}
    (h : EsccEffect c s t ((s.chan c).received q) (rrReceived s c) out) (hq : q.wf = true) : t.Sound := by
  have hc := (hs.chan c).control
  exact h.sound hs { hc with queue := hq, rxLatch := fun _ => rfl } rfl rfl (rrReceived_sound hs c)

theorem pushChan_sound (b : Byte) : (pushChan c b s).Sound := by
  have h := pushChan_effect c b s
  split at h
  · rw [h]
    exact hs
  · next hf => exact EsccEffect.received_sound hs c h (ByteQueue.enqueue_wf _ b (hs.chan c).queue (by simpa using hf))

theorem popChan_sound : (popChan c s).Sound := by
  have hc := (hs.chan c).control
  have h := popChan_effect c s
  split_ifs at h with h0 h1
  · rw [h]
    exact hs
  · exact h.sound hs { hc with queue := ByteQueue.dequeue_wf _ hc.queue h0 } rfl rfl hs.read
  · exact EsccEffect.received_sound hs c h (ByteQueue.dequeue_wf _ hc.queue h0)

omit hs in
/-- The pushes of a reply, one by one. -/
theorem pushChanAll_sound (bs : List Byte) : ∀ {s : State}, s.Sound → (pushChanAll c bs s).Sound := by
  induction bs with
  | nil => exact fun hs => hs
  | cons b bs ih => exact fun hs => ih (pushChan_sound hs c b)

/-- An update that keeps a channel's registers, its `disabled` and its latches' invariant. -/
theorem modChan_same_registers_sound {f : Channel → Channel} (hc : (f (s.chan c)).ControlSound)
    (hwr : (f (s.chan c)).wr = (s.chan c).wr) (hrr : (f (s.chan c)).rr = (s.chan c).rr)
    (hd : (f (s.chan c)).disabled = (s.chan c).disabled) : (s.modChan c f).Sound :=
  hs.modChan ((hs.chan c).of_same_registers hc hwr hrr hd)

theorem latchPointer_sound (n : BitVec 4) : (latchPointer c n s).Sound :=
  modChan_same_registers_sound hs c { (hs.chan c).control with } rfl rfl rfl

theorem storeTx_sound (v : Byte) : (storeTx c v s).Sound :=
  modChan_same_registers_sound hs c { (hs.chan c).control with } rfl rfl rfl

theorem clearChan_sound : (clearChan c s).Sound :=
  modChan_same_registers_sound hs c { (hs.chan c).control with queue := ByteQueue.clear_wf _ } rfl rfl rfl

theorem sunReply_sound (reply : List Byte) : (sunReply c reply s).Sound :=
  pushChanAll_sound c reply (clearChan_sound hs c)

/-- A data-port write is sound where the effect its role gives it is (43 R200). -/
theorem dataWrite_sound (v : Byte) {f : State → State} (hf : ∀ {u : State}, u.Sound → (f u).Sound) :
    (dataWrite c v f s).Sound :=
  transmitDone_sound (hf (storeTx_sound hs c v)) c

theorem updateParameters_sound : (updateParameters c s).Sound := by
  unfold updateParameters
  split
  · exact emit_sound hs _
  · exact hs
  · exact hs

omit hs in
/-- `WR9_STORE` stores no reset code (10 R38, 41 R165). -/
theorem wr9Value_no_reset_code (low : BitVec 6) : wr9Value low &&& 0xC0 = 0x00 := by
  revert low
  decide

/-- A store to a write register without a mirror. -/
theorem storeWR_sound {n : Fin 16} {v : Byte} (h0 : n ≠ 0) (h9 : n = 9 → v &&& 0xC0 = 0x00) (h12 : n ≠ 12)
    (h13 : n ≠ 13) : (storeWR c n v s).Sound := by
  have h := (hs.chan c).setWR h0 h9 h12 h13
  exact hs.modChan (h.of_same_registers { h.control with } rfl rfl rfl)

/-- The store of a half of the baud time constant, with its mirror (41 R168, R169). -/
theorem storeWR_mirrored_sound {n : Fin 16} (hn : n = 12 ∨ n = 13) (v : Byte) :
    ((storeWR c n v s).modChan c (·.setRR n v)).Sound := by
  have h := (hs.chan c).setMirrored hn v
  rw [storeWR, modChan_modChan]
  exact hs.modChan (h.of_same_registers { h.control with } rfl rfl rfl)

theorem readRR_sound (n : Fin 16) : (readRR c n s).Sound := emit_sound (latchPointer_sound hs c 0) _

theorem resetChannel_sound : (resetChannel c s).Sound :=
  hs.modChan (afterReset_eq _ ▸ Channel.reset_with_queue_sound c _ _ _ (ByteQueue.clear_wf _))

theorem esccResetAll_sound : (esccResetAll s).Sound := resetChannel_sound (resetChannel_sound hs .A) .B

/-- Setting a free status bit (43 R202, R203, R205). -/
theorem setStatus_sound {b : Byte} (hb : ∀ d, statusReset d ||| b &&& 0x7E = statusReset d) :
    ((s.chan c).setStatus b).Sound c :=
  (hs.chan c).setRR (Channel.ReadSound.or_status (hs.read c 0) hb)

theorem clearStatus_sound {b : Byte} (hb : ∀ d, statusReset d &&& ~~~b = statusReset d) :
    ((s.chan c).clearStatus b).Sound c :=
  (hs.chan c).setRR (Channel.ReadSound.and_status (hs.read c 0) hb)

end Ops

/-! ## The shared operations of the PS/2 devices -/

/-- Where two bytes are queued, one remains after a pop (40 R141). -/
theorem ByteQueue.dequeue_not_empty {C : Nat} [NeZero C] {q : ByteQueue C} (h0 : q.count ≠ 0) (h1 : q.count ≠ 1) :
    true = decide (q.dequeue.count ≠ 0) := by
  refine (decide_eq_true ?_).symm
  rw [ByteQueue.dequeue_count]
  omega

section Ps2

variable {s : State} (hs : s.Sound)
include hs

/-- An operation on the keyboard alone. -/
theorem State.Sound.of_kbd {t : State} (hk : t.kbd.Sound) (ht : t = { s with kbd := t.kbd, out := t.out }) :
    t.Sound := by
  rw [ht]
  exact { hs with kbd := hk }

/-- An operation on the mouse alone. -/
theorem State.Sound.of_mouse {t : State} (hm : t.mouse.Sound) (ht : t = { s with mouse := t.mouse, out := t.out }) :
    t.Sound := by
  rw [ht]
  exact { hs with mouse := hm }

/-! ### The keyboard -/

/-- An accepted byte raises the line over a queue that is not empty (45 R270). -/
theorem pushKbd_sound (b : Byte) : (pushKbd b s).Sound := by
  unfold pushKbd
  split
  · exact hs
  · next hf => exact hs.of_kbd ⟨ByteQueue.enqueue_wf _ b hs.kbd.queue (by simpa using hf), by simp⟩ rfl

omit hs in
theorem pushKbdAll_sound (bs : List Byte) : ∀ {s : State}, s.Sound → (pushKbdAll bs s).Sound := by
  induction bs with
  | nil => exact fun hs => hs
  | cons b bs ih => exact fun hs => ih (pushKbd_sound hs b)

theorem clearKbd_sound : (clearKbd s).Sound := hs.of_kbd ⟨ByteQueue.clear_wf _, rfl⟩ rfl

theorem kbdFullReset_sound : (kbdFullReset s).Sound := hs.of_kbd ⟨ByteQueue.clear_wf _, rfl⟩ rfl

theorem kbdDeviceReset_sound : (kbdDeviceReset s).Sound := hs.of_kbd ⟨ByteQueue.clear_wf _, rfl⟩ rfl

theorem setKbdCmd_sound (cmd : Option KbdArg) : (setKbdCmd cmd s).Sound := hs.of_kbd { hs.kbd with } rfl

theorem setScanEnabled_sound (on : Bool) : (setScanEnabled on s).Sound := hs.of_kbd { hs.kbd with } rfl

/-- The line lowered by a read is high again exactly where bytes remain (45 R269, R270). -/
theorem popKbd_setKbdIrq_sound : (popKbd (setKbdIrq false s)).Sound := by
  have hq := hs.kbd.queue
  have h := popKbd_effect (setKbdIrq false s)
  rw [setKbdIrq_q] at h
  split_ifs at h with h0 h1
  · rw [h]
    exact hs.of_kbd ⟨hq, by simp [h0]⟩ rfl
  · rw [h]
    exact hs.of_kbd ⟨ByteQueue.dequeue_wf _ hq h0, by simp [h1]⟩ rfl
  · rw [h]
    exact hs.of_kbd ⟨ByteQueue.dequeue_wf _ hq h0, ByteQueue.dequeue_not_empty h0 h1⟩ rfl

/-! ### The mouse -/

/-- An accepted byte raises the line over a queue that is not empty (46 R315). -/
theorem pushMouse_sound (b : Byte) : (pushMouse b s).Sound := by
  unfold pushMouse
  split
  · exact hs
  · next hf =>
    exact hs.of_mouse ⟨ByteQueue.enqueue_wf _ b hs.mouse.queue (by simpa using hf), by simp, hs.mouse.status⟩ rfl

omit hs in
theorem pushMouseAll_sound (bs : List Byte) : ∀ {s : State}, s.Sound → (pushMouseAll bs s).Sound := by
  induction bs with
  | nil => exact fun hs => hs
  | cons b bs ih => exact fun hs => ih (pushMouse_sound hs b)

theorem mouseDeviceReset_sound : (mouseDeviceReset s).Sound :=
  hs.of_mouse ⟨ByteQueue.clear_wf _, rfl, BitVec.zero_and⟩ rfl

theorem setAuxCmd_sound (cmd : Option AuxArg) : (setAuxCmd cmd s).Sound := hs.of_mouse { hs.mouse with } rfl

theorem setWrap_sound (on : Bool) : (setWrap on s).Sound := hs.of_mouse { hs.mouse with } rfl

/-- The status bits an operation sets are those of 10 R54. -/
theorem setMouseStatus_sound {bits : Byte} (hb : bits &&& 0x8F = 0x00) : (setMouseStatus bits s).Sound :=
  hs.of_mouse { hs.mouse with status := masked_or hs.mouse.status (by rw [hb]; rfl) } rfl

theorem clearMouseStatus_sound (bits : Byte) : (clearMouseStatus bits s).Sound :=
  hs.of_mouse { hs.mouse with status := masked_and hs.mouse.status BitVec.zero_and } rfl

theorem mouseDefaults_sound : (mouseDefaults s).Sound := hs.of_mouse { hs.mouse with status := BitVec.zero_and } rfl

/-- The line lowered by a read is high again exactly where bytes remain (46 R314, R315). -/
theorem popMouse_setMouseIrq_sound : (popMouse (setMouseIrq false s)).Sound := by
  have hq := hs.mouse.queue
  have h := popMouse_effect (setMouseIrq false s)
  rw [setMouseIrq_q] at h
  split_ifs at h with h0 h1
  · rw [h]
    exact hs.of_mouse ⟨hq, by simp [h0], hs.mouse.status⟩ rfl
  · rw [h]
    exact hs.of_mouse ⟨ByteQueue.dequeue_wf _ hq h0, by simp [h1], hs.mouse.status⟩ rfl
  · rw [h]
    exact hs.of_mouse ⟨ByteQueue.dequeue_wf _ hq h0, ByteQueue.dequeue_not_empty h0 h1, hs.mouse.status⟩ rfl

/-- A packet's pushes; the accumulators are no part of the invariant (46 R313). -/
theorem sendPacket_sound : (sendPacket s).Sound := by
  have h := pushMouseAll_sound s.mouse.packet hs
  exact h.of_mouse { h.mouse with } rfl

omit hs in
theorem mouseSyncLoop_sound (fuel : Nat) : ∀ {s : State}, s.Sound → (mouseSyncLoop fuel s).Sound := by
  induction fuel with
  | zero => exact fun hs => hs
  | succ fuel ih =>
    intro s hs
    have hsent := sendPacket_sound hs
    unfold mouseSyncLoop
    dsimp only
    split_ifs
    · exact hsent
    · exact ih hsent
    · exact hs

end Ps2

/-! ## Instructions with more than one branch -/

/-- The outcome of an instruction or a step is sound where its next state is, if it has one. -/
def SoundOutcome : Result → Prop
  | .next t => t.Sound
  | .fault _ => True
  | .refused _ => True

section Instructions

variable {s : State} (hs : s.Sound)
include hs

theorem execDr_sound (c : Chan) : SoundOutcome (execDr c s) := by
  have h : (clearRx c (s.modChan c (·.clearStatus statusRxav))).Sound :=
    clearRx_sound (hs.modChan (clearStatus_sound hs c (by decide))) c
  unfold execDr
  dsimp only
  split
  · exact emit_sound h _
  · exact emit_sound (popChan_sound h c) _
  · exact emit_sound (popChan_sound h c) _

theorem execReceive_sound (c : Chan) (b : Byte) : SoundOutcome (execReceive c b s) := by
  have h := setStatus_sound hs c (b := statusRxav) (by decide)
  unfold execReceive
  split
  · exact setRx_sound (hs.modChan (h.of_same_registers { h.control with } rfl rfl rfl)) c
  · exact hs
  · exact hs

theorem execReceiveBreak_sound (c : Chan) : SoundOutcome (execReceiveBreak c s) := by
  unfold execReceiveBreak
  split
  · exact hs.modChan (setStatus_sound hs c (by decide))
  · exact hs
  · exact hs

omit hs in
/-- The edge filters move a phase alone (44 R228, R229). -/
theorem Channel.Sound.passKey {x : Chan} {ch ch' : Channel} (h : ch.Sound x) {q : Qcode} {down : Bool}
    (hp : ch.passKey q down = some ch') : ch'.Sound x := by
  have hkeep : ch' = { ch with capsPhase := ch'.capsPhase, numPhase := ch'.numPhase } := by
    cases q with
    | capsLock =>
      obtain ⟨ph, -, rfl⟩ := Option.map_eq_some_iff.mp hp
      rfl
    | numLock =>
      obtain ⟨ph, -, rfl⟩ := Option.map_eq_some_iff.mp hp
      rfl
    | other k =>
      obtain rfl := Option.some.inj hp
      rfl
  rw [hkeep]
  exact h.of_same_registers { h.control with } rfl rfl rfl

theorem execKeyEvent_sound (c : Chan) (q : Qcode) (down : Bool) : SoundOutcome (execKeyEvent c q down s) := by
  unfold execKeyEvent
  split
  · exact hs
  · exact hs
  · split
    · exact hs
    · next ch hp =>
      have h := hs.setChan ((hs.chan c).passKey hp)
      split
      · exact h
      · exact pushChan_sound h c _

theorem execMouseEvent_sound (c : Chan) (dx dy dz : Int) (buttons : Byte) :
    SoundOutcome (execMouseEvent c dx dy dz buttons s) := by
  unfold execMouseEvent
  split
  · exact hs
  · exact hs
  · exact pushChanAll_sound c _ hs

theorem execDwSerial_sound (c : Chan) (v : Byte) : SoundOutcome (execDwSerial c v s) :=
  dataWrite_sound hs c v fun hu => by
    split
    · exact emit_sound hu _
    · exact hu

theorem execKbdArgScancode_sound (v : Byte) : SoundOutcome (execKbdArgScancode v s) := by
  unfold execKbdArgScancode
  split
  · exact setKbdCmd_sound (pushKbd_sound hs _) _
  · split
    · refine setKbdCmd_sound (pushKbd_sound ?_ _) _
      exact hs.of_kbd { hs.kbd with } rfl
    · exact setKbdCmd_sound (pushKbd_sound hs _) _

theorem execPs2MouseEvent_sound (ex ey ez : Int) (b : Byte) : SoundOutcome (execPs2MouseEvent ex ey ez b s) := by
  unfold execPs2MouseEvent
  dsimp only
  split_ifs
  · exact hs.of_mouse { hs.mouse with } rfl
  · exact hs.of_mouse { hs.mouse with } rfl
  · exact mouseSyncLoop_sound _ (hs.of_mouse { hs.mouse with } rfl)
  · exact hs

/-- Every instruction keeps the invariant, one arm per row or group of rows with one effect. -/
theorem exec_sound : ∀ i : Instr, SoundOutcome (exec i s)
  | .cmdNull c _ _ | .cmdHi c _ _ | .cmdUnassigned10 c _ _ | .cmdUnassigned18 c _ _ | .cmdUnassigned20 c _ _
  | .cmdUnassigned30 c _ _ => latchPointer_sound hs c _
  | .cmdClrTxint c _ _ => latchPointer_sound (clearTx_sound hs c) c _
  | .cmdClrIus c _ _ => latchPointer_sound (clearIUS_sound hs c) c _
  | .wr1 c _ | .wr2 c _ | .wr3 c _ | .wr6 c _ | .wr7 c _ | .wr8 c _ | .wr10 c _ | .wr11 c _ | .wr14 c _
  | .wr15 c _ => storeWR_sound hs c (by decide) (by nofun) (by decide) (by decide)
  | .wr4 c _ | .wr5 c _ =>
    updateParameters_sound (storeWR_sound hs c (by decide) (by nofun) (by decide) (by decide)) c
  | .wr9Store c low => storeWR_sound hs c (by decide) (fun _ => wr9Value_no_reset_code low) (by decide) (by decide)
  | .wr9RstB _ _ => resetChannel_sound hs .B
  | .wr9RstA _ _ => resetChannel_sound hs .A
  | .wr9RstAll _ _ | .esccReset => esccResetAll_sound hs
  | .wr12Brglo c v => updateParameters_sound (storeWR_mirrored_sound hs c (.inl rfl) v) c
  | .wr13Brghi c v => updateParameters_sound (storeWR_mirrored_sound hs c (.inr rfl) v) c
  | .rr0 c | .rr1 c | .rr2 c | .rr3 c | .rr4 c | .rr5 c | .rr6 c | .rr7 c | .rr8 c | .rr9 c | .rr10 c | .rr11 c
  | .rr12 c | .rr13 c | .rr14 c | .rr15 c => readRR_sound hs c _
  | .dwSerial c v => execDwSerial_sound hs c v
  | .dwMouse c v | .dwKbdTxoff c v | .skOther c v => dataWrite_sound hs c v fun hu => hu
  | .skReset c | .skLayout07 c | .skLayout0F c => dataWrite_sound hs c _ fun hu => sunReply_sound hu c _
  | .skSetLeds c | .skLedMask c _ =>
    dataWrite_sound hs c _ fun hu => modChan_same_registers_sound hu c { (hu.chan c).control with } rfl rfl rfl
  | .dr c => execDr_sound hs c
  | .receive c b => execReceive_sound hs c b
  | .receiveBreak c => execReceiveBreak_sound hs c
  | .keyEvent c q down => execKeyEvent_sound hs c q down
  | .mouseEvent c dx dy dz buttons => execMouseEvent_sound hs c dx dy dz buttons
  | .kbd00 | .kbd05 | .kbdEcho | .kbdOther _ => pushKbd_sound hs _
  | .kbdSetLeds | .kbdScancode | .kbdSetRate => pushKbd_sound (setKbdCmd_sound hs _) _
  | .kbdGetId | .kbdEmit _ => pushKbdAll_sound _ hs
  | .kbdEnable => pushKbd_sound (setScanEnabled_sound hs true) _
  | .kbdResetDisable | .kbdResetEnable => pushKbd_sound (setScanEnabled_sound (kbdFullReset_sound hs) _) _
  | .kbdResetCmd => pushKbdAll_sound _ (kbdFullReset_sound hs)
  | .kbdArgScancode v => execKbdArgScancode_sound hs v
  | .kbdArgSetLeds _ => by
    refine setKbdCmd_sound (pushKbd_sound ?_ _) none
    exact hs.of_kbd { hs.kbd with } rfl
  | .kbdArgSetRate _ => setKbdCmd_sound (pushKbd_sound hs _) none
  | .kbdRead => emit_sound (popKbd_setKbdIrq_sound hs) _
  | .kbdSetTranslate _ => hs.of_kbd { hs.kbd with } rfl
  | .kbdReset => kbdDeviceReset_sound hs
  | .auxSetScale11 | .auxSetStream | .auxDisableDev => pushMouse_sound (clearMouseStatus_sound hs _) _
  | .auxSetScale21 | .auxSetRemote | .auxEnableDev => pushMouse_sound (setMouseStatus_sound hs rfl) _
  | .auxSetRes | .auxSetSample => pushMouse_sound (setAuxCmd_sound hs _) _
  | .auxGetScale | .auxGetType => pushMouseAll_sound _ hs
  | .auxPoll => sendPacket_sound (pushMouse_sound hs _)
  | .auxResetWrap | .auxSetWrap | .auxWrapExit => pushMouse_sound (setWrap_sound hs _) _
  | .auxSetDefault => pushMouse_sound (mouseDefaults_sound hs) _
  | .auxReset =>
    have h := mouseDefaults_sound hs
    pushMouseAll_sound _ (h.of_mouse { h.mouse with } rfl)
  | .auxOther _ => hs
  | .auxWrapEcho v => pushMouse_sound hs v
  | .auxArgSetRes _ | .auxArgSetSample _ => by
    refine setAuxCmd_sound (pushMouse_sound ?_ _) none
    exact hs.of_mouse { hs.mouse with } rfl
  | .mouseRead => emit_sound (popMouse_setMouseIrq_sound hs) _
  | .ps2MouseEvent dx dy dz buttons => execPs2MouseEvent_sound hs dx dy dz buttons
  | .mouseReset => mouseDeviceReset_sound hs

/-- A step changes `inputs` alone, or is its instruction's. -/
theorem step_sound : SoundOutcome (step s) := by
  unfold step
  split
  · exact hs
  · exact withTraces_sound hs _ _
  · exact trivial
  · next i rest _ =>
    have h := exec_sound hs i
    split
    · next t ht =>
      rw [ht] at h
      exact withTraces_sound h _ _
    · exact trivial
    · exact trivial

end Instructions

/-- Settles O59: whatever the step serves, a sound state answers a sound state. -/
theorem stepKeepsSound : Obligations.StepKeepsSound := by
  intro s t hs ht
  have h := step_sound hs
  rw [ht] at h
  exact h

end Sys2Proof.Machine
end

section
/-! PROOFS. The port map of the ESCC window (spec/20_memory.md R80, R81, R92), the steps that run no instruction,
and what an instruction cannot touch (20 R83, 70 R390; 10 R20, R45, R46): one frame lemma per shared operation, then
one arm per instruction. -/

namespace Sys2Proof.Machine

/-! ## Address decode -/

/-- Offset `d` of block `j` of `2 ^ k` bytes: bits 0 and 1 of `j` select port and channel, `d` selects nothing. -/
theorem decodeOffset_block {k d : Nat} (j : Nat) (hd : d < 2 ^ k) :
    decodeOffset k (j * 2 ^ k + d) =
      if j < 4 then
        let c : Chan := if j / 2 % 2 = 1 then .A else .B
        some (if j % 2 = 1 then .data c else .ctrl c)
      else none := by
  have hpos : 0 < 2 ^ k := Nat.two_pow_pos k
  have hport : (j * 2 ^ k + d) >>> k = j := by
    rw [Nat.shiftRight_eq_div_pow, Nat.mul_comm, Nat.mul_add_div hpos, Nat.div_eq_of_lt hd, Nat.add_zero]
  have hchan : (j * 2 ^ k + d) >>> (k + 1) = j / 2 := by
    rw [Nat.shiftRight_add, hport, Nat.shiftRight_eq_div_pow, Nat.pow_one]
  have hwindow : j * 2 ^ k + d < 4 <<< k ↔ j < 4 := by
    rw [Nat.shiftLeft_eq, ← Nat.div_lt_iff_lt_mul hpos, ← Nat.shiftRight_eq_div_pow, hport]
  simp only [decodeOffset, hport, hchan, hwindow]

/-! ## Steps that run no instruction -/

theorem fetch_of_inputs_nil {s : State} (h : s.inputs = []) : fetch s = .idle := by
  simp only [fetch, h]

theorem step_of_fetch_idle {s : State} (h : fetch s = .idle) : step s = .next s := by
  simp only [step, h]

theorem step_of_fetch_elsewhere {s : State} {rest : List Op} (h : fetch s = .op .elsewhere rest) :
    step s = .next { s with inputs := rest } := by
  simp only [step, h]

theorem step_of_fetch_refused {s : State} {why : Breach} {rest : List Op}
    (h : fetch s = .op (.refused why) rest) : step s = .refused (refusalOf why) := by
  simp only [step, h]

/-! ## Frames -/

/-- From `s` to `t` nothing outside device `d` has moved (20 R83, 70 R390). -/
structure DeviceFrame (d : Device) (s t : State) : Prop where
  channels : d ≠ .escc → t.chA = s.chA ∧ t.chB = s.chB
  kbd : d ≠ .kbd → t.kbd = s.kbd
  mouse : d ≠ .mouse → t.mouse = s.mouse

/-- From `s` to `t` nothing has moved that an operation on channel `c` may not touch: besides the PS/2 devices, all
of the sibling but its RR2 and RR3, and channel B's RR3 (10 R20, R45, R46). -/
structure ChannelFrame (c : Chan) (s t : State) : Prop extends DeviceFrame .escc s t where
  sibling : t.chan c.sib = { s.chan c.sib with rr := (t.chan c.sib).rr }
  registers : ∀ n : Fin 16, n ≠ 2 → n ≠ 3 → t.rrOf c.sib n = s.rrOf c.sib n
  pendingB : t.rrOf .B 3 = s.rrOf .B 3

theorem DeviceFrame.refl (d : Device) (s : State) : DeviceFrame d s s :=
  ⟨fun _ => ⟨rfl, rfl⟩, fun _ => rfl, fun _ => rfl⟩

theorem DeviceFrame.trans {d : Device} {s t u : State} (h : DeviceFrame d s t) (h' : DeviceFrame d t u) :
    DeviceFrame d s u where
  channels hd := ⟨(h'.channels hd).1.trans (h.channels hd).1, (h'.channels hd).2.trans (h.channels hd).2⟩
  kbd hd := (h'.kbd hd).trans (h.kbd hd)
  mouse hd := (h'.mouse hd).trans (h.mouse hd)

theorem ChannelFrame.refl (c : Chan) (s : State) : ChannelFrame c s s :=
  { DeviceFrame.refl .escc s with sibling := rfl, registers := fun _ _ _ => rfl, pendingB := rfl }

theorem ChannelFrame.trans {c : Chan} {s t u : State} (h : ChannelFrame c s t) (h' : ChannelFrame c t u) :
    ChannelFrame c s u :=
  { h.toDeviceFrame.trans h'.toDeviceFrame with
    sibling := by rw [h'.sibling, h.sibling]
    registers := fun n h2 h3 => (h'.registers n h2 h3).trans (h.registers n h2 h3)
    pendingB := h'.pendingB.trans h.pendingB }

/-! ## The shared operations of a channel -/

section Channels

variable (c : Chan) (s : State)

theorem emit_deviceFrame (d : Device) (o : Output) : DeviceFrame d s (s.emit o) :=
  ⟨fun _ => ⟨rfl, rfl⟩, fun _ => rfl, fun _ => rfl⟩

theorem emit_frame (o : Output) : ChannelFrame c s (s.emit o) :=
  { emit_deviceFrame s .escc o with
    sibling := by rw [emit_chan]
    registers := fun n _ _ => by rw [State.rrOf, emit_chan, State.rrOf]
    pendingB := rfl }

theorem setChan_deviceFrame (ch : Channel) : DeviceFrame .escc s (s.setChan c ch) :=
  ⟨fun h => absurd rfl h, fun _ => setChan_kbd s c ch, fun _ => setChan_mouse s c ch⟩

/-- An update of channel `c` that keeps its RR3: where `c` is B, RR3 is not its own to move. -/
theorem setChan_frame {ch : Channel} (h3 : ch.rr[(3 : Fin 16)] = (s.chan c).rr[(3 : Fin 16)]) :
    ChannelFrame c s (s.setChan c ch) :=
  { setChan_deviceFrame c s ch with
    sibling := by rw [setChan_chan_sib]
    registers := fun n _ _ => by rw [State.rrOf, setChan_chan_sib, State.rrOf]
    pendingB := by
      cases c
      · rfl
      · exact h3 }

theorem modChan_frame {f : Channel → Channel} (h3 : (f (s.chan c)).rr[(3 : Fin 16)] = (s.chan c).rr[(3 : Fin 16)]) :
    ChannelFrame c s (s.modChan c f) :=
  setChan_frame c s h3

theorem setRR_rr_three (ch : Channel) {n : Fin 16} (hn : 3 ≠ n) (v : Byte) :
    (ch.setRR n v).rr[(3 : Fin 16)] = ch.rr[(3 : Fin 16)] := by
  rw [setRR_rr, bank_get, if_neg hn]

/-- The mirror of a written register (41 R168, R169). -/
theorem setRR_frame {n : Fin 16} (hn : 3 ≠ n) (v : Byte) : ChannelFrame c s (s.modChan c (·.setRR n v)) :=
  modChan_frame c s (setRR_rr_three _ hn v)

/-- The status bits stand in RR0 (10 R43). -/
theorem setStatus_rr_three (ch : Channel) (bits : Byte) :
    (ch.setStatus bits).rr[(3 : Fin 16)] = ch.rr[(3 : Fin 16)] :=
  setRR_rr_three ch (by decide) _

theorem clearStatus_rr_three (ch : Channel) (bits : Byte) :
    (ch.clearStatus bits).rr[(3 : Fin 16)] = ch.rr[(3 : Fin 16)] :=
  setRR_rr_three ch (by decide) _

variable {c s}

/-- An effect on channel `c` stays inside the frame where the registers it leaves do. -/
theorem EsccEffect.frame {t : State} {ch : Channel} {rr : Chan → Fin 16 → Byte} {out : List Output}
    (h : EsccEffect c s t ch rr out) (hsib : ∀ n, n ≠ 2 → n ≠ 3 → rr c.sib n = s.rrOf c.sib n)
    (hB : rr .B 3 = s.rrOf .B 3) : ChannelFrame c s t where
  channels hd := absurd rfl hd
  kbd _ := by rw [h.rest]
  mouse _ := by rw [h.rest]
  sibling := h.sibling
  registers n h2 h3 := (h.registers c.sib n).trans (hsib n h2 h3)
  pendingB := (h.registers .B 3).trans hB

/-- The arbiter's register shape: of the sibling it writes RR2 and, where that is A, RR3; of B never RR3. -/
theorem EsccEffect.frame_of_rrAfter {t : State} {ch : Channel} {r0 r1 vec pend : Byte} {out : List Output}
    (h : EsccEffect c s t ch (rrAfter s c r0 r1 vec pend) out) : ChannelFrame c s t :=
  h.frame (fun n h2 h3 => by simp [rrAfter, h2, h3, State.rrOf]) (by simp [rrAfter, State.rrOf])

variable (c s)

theorem clearRx_frame : ChannelFrame c s (clearRx c s) := (clearRx_effect c s).frame_of_rrAfter

theorem clearTx_frame : ChannelFrame c s (clearTx c s) := (clearTx_effect c s).frame_of_rrAfter

theorem clearIUS_frame : ChannelFrame c s (clearIUS c s) := (clearIUS_effect c s).frame_of_rrAfter

theorem setRx_frame : ChannelFrame c s (setRx c s) := (setRx_effect c s).frame_of_rrAfter

theorem transmitDone_frame : ChannelFrame c s (transmitDone c s) := (transmitDone_effect c s).frame_of_rrAfter

theorem pushChan_frame (b : Byte) : ChannelFrame c s (pushChan c b s) := by
  have h := pushChan_effect c b s
  split at h
  · rw [h]
    exact .refl c s
  · exact h.frame_of_rrAfter

theorem popChan_frame : ChannelFrame c s (popChan c s) := by
  have h := popChan_effect c s
  split_ifs at h with h0 h1
  · rw [h]
    exact .refl c s
  · exact h.frame (fun _ _ _ => rfl) rfl
  · exact h.frame_of_rrAfter

theorem pushChanAll_frame (bs : List Byte) : ChannelFrame c s (pushChanAll c bs s) := by
  induction bs generalizing s with
  | nil => exact .refl c s
  | cons b bs ih => exact (pushChan_frame c s b).trans (ih _)

theorem latchPointer_frame (n : BitVec 4) : ChannelFrame c s (latchPointer c n s) := modChan_frame c s rfl

theorem storeWR_frame (n : Fin 16) (v : Byte) : ChannelFrame c s (storeWR c n v s) := modChan_frame c s rfl

theorem updateParameters_frame : ChannelFrame c s (updateParameters c s) := by
  unfold updateParameters
  split
  · exact emit_frame c s _
  · exact .refl c s
  · exact .refl c s

theorem readRR_frame (n : Fin 16) : ChannelFrame c s (readRR c n s) :=
  (latchPointer_frame c s 0).trans (emit_frame c _ _)

theorem sunReply_frame (reply : List Byte) : ChannelFrame c s (sunReply c reply s) :=
  (modChan_frame c s rfl).trans (pushChanAll_frame c _ reply)

/-- A data-port write stays inside the frame where the effect its role gives it does (43 R200). -/
theorem dataWrite_frame (v : Byte) {f : State → State} (hf : ∀ u, ChannelFrame c u (f u)) :
    ChannelFrame c s (dataWrite c v f s) :=
  ((modChan_frame c s rfl).trans (hf _)).trans (transmitDone_frame c _)

theorem resetChannel_deviceFrame : DeviceFrame .escc s (resetChannel c s) := setChan_deviceFrame c s _

theorem esccResetAll_deviceFrame : DeviceFrame .escc s (esccResetAll s) :=
  (resetChannel_deviceFrame .A s).trans (resetChannel_deviceFrame .B _)

end Channels

/-! ## The shared operations of the PS/2 devices -/

section Ps2

theorem DeviceFrame.of_kbd {s t : State} (h : t = { s with kbd := t.kbd, out := t.out }) :
    DeviceFrame .kbd s t := by
  rw [h]
  exact ⟨fun _ => ⟨rfl, rfl⟩, fun hd => absurd rfl hd, fun _ => rfl⟩

theorem DeviceFrame.of_mouse {s t : State} (h : t = { s with mouse := t.mouse, out := t.out }) :
    DeviceFrame .mouse s t := by
  rw [h]
  exact ⟨fun _ => ⟨rfl, rfl⟩, fun _ => rfl, fun hd => absurd rfl hd⟩

variable (s : State)

theorem pushKbd_frame (b : Byte) : DeviceFrame .kbd s (pushKbd b s) := by
  unfold pushKbd
  split
  · exact .refl .kbd s
  · exact .of_kbd rfl

theorem pushKbdAll_frame (bs : List Byte) : DeviceFrame .kbd s (pushKbdAll bs s) := by
  induction bs generalizing s with
  | nil => exact .refl .kbd s
  | cons b bs ih => exact (pushKbd_frame s b).trans (ih _)

theorem popKbd_frame : DeviceFrame .kbd s (popKbd s) := by
  unfold popKbd
  dsimp only
  split_ifs
  · exact .refl .kbd s
  · exact .of_kbd rfl
  · exact .of_kbd rfl

theorem pushMouse_frame (b : Byte) : DeviceFrame .mouse s (pushMouse b s) := by
  unfold pushMouse
  split
  · exact .refl .mouse s
  · exact .of_mouse rfl

theorem pushMouseAll_frame (bs : List Byte) : DeviceFrame .mouse s (pushMouseAll bs s) := by
  induction bs generalizing s with
  | nil => exact .refl .mouse s
  | cons b bs ih => exact (pushMouse_frame s b).trans (ih _)

theorem popMouse_frame : DeviceFrame .mouse s (popMouse s) := by
  unfold popMouse
  dsimp only
  split_ifs
  · exact .refl .mouse s
  · exact .of_mouse rfl
  · exact .of_mouse rfl

theorem sendPacket_frame : DeviceFrame .mouse s (sendPacket s) :=
  (pushMouseAll_frame s s.mouse.packet).trans (.of_mouse rfl)

theorem mouseSyncLoop_frame (fuel : Nat) : DeviceFrame .mouse s (mouseSyncLoop fuel s) := by
  induction fuel generalizing s with
  | zero => exact .refl .mouse s
  | succ fuel ih =>
    unfold mouseSyncLoop
    dsimp only
    split_ifs
    · exact sendPacket_frame s
    · exact (sendPacket_frame s).trans (ih _)
    · exact .refl .mouse s

end Ps2

/-! ## The frame of every instruction -/

/-- `P` holds of the next state of an outcome, if it has one. -/
def HoldsOfNext (P : State → Prop) : Result → Prop
  | .next t => P t
  | .fault _ => True
  | .refused _ => True

section Instructions

variable (c : Chan) (s : State)

theorem execDr_frame : HoldsOfNext (ChannelFrame c s) (execDr c s) := by
  have h : ChannelFrame c s (clearRx c (s.modChan c (·.clearStatus statusRxav))) :=
    (modChan_frame c s (clearStatus_rr_three _ _)).trans (clearRx_frame c _)
  unfold execDr
  dsimp only
  split
  · exact h.trans (emit_frame c _ _)
  · exact (h.trans (popChan_frame c _)).trans (emit_frame c _ _)
  · exact (h.trans (popChan_frame c _)).trans (emit_frame c _ _)

theorem execReceive_frame (b : Byte) : HoldsOfNext (ChannelFrame c s) (execReceive c b s) := by
  unfold execReceive
  split
  · exact (modChan_frame c s (setStatus_rr_three _ _)).trans (setRx_frame c _)
  · exact .refl c s
  · exact .refl c s

theorem execReceiveBreak_frame : HoldsOfNext (ChannelFrame c s) (execReceiveBreak c s) := by
  unfold execReceiveBreak
  split
  · exact modChan_frame c s (setStatus_rr_three _ _)
  · exact .refl c s
  · exact .refl c s

/-- The edge filters move a phase alone (44 R228, R229). -/
theorem Channel.passKey_rr {ch ch' : Channel} {q : Qcode} {down : Bool} (h : ch.passKey q down = some ch') :
    ch'.rr = ch.rr := by
  cases q with
  | capsLock =>
    obtain ⟨phase, -, rfl⟩ := Option.map_eq_some_iff.mp h
    rfl
  | numLock =>
    obtain ⟨phase, -, rfl⟩ := Option.map_eq_some_iff.mp h
    rfl
  | other k => rw [← Option.some.inj h]

theorem execKeyEvent_frame (q : Qcode) (down : Bool) : HoldsOfNext (ChannelFrame c s) (execKeyEvent c q down s) := by
  unfold execKeyEvent
  split
  · exact .refl c s
  · exact .refl c s
  · split
    · exact .refl c s
    · next ch hpass =>
      have h := setChan_frame c s (ch := ch) (by rw [Channel.passKey_rr hpass])
      split
      · exact h
      · exact h.trans (pushChan_frame c _ _)

theorem execMouseEvent_frame (dx dy dz : Int) (buttons : Byte) :
    HoldsOfNext (ChannelFrame c s) (execMouseEvent c dx dy dz buttons s) := by
  unfold execMouseEvent
  split
  · exact .refl c s
  · exact .refl c s
  · exact pushChanAll_frame c s _

theorem execDwSerial_frame (v : Byte) : HoldsOfNext (ChannelFrame c s) (execDwSerial c v s) :=
  dataWrite_frame c s v fun u => by
    split
    · exact emit_frame c u _
    · exact .refl c u

theorem execKbdArgScancode_frame (v : Byte) : HoldsOfNext (DeviceFrame .kbd s) (execKbdArgScancode v s) := by
  unfold execKbdArgScancode
  split
  · exact (pushKbd_frame s _).trans (.of_kbd rfl)
  · split
    · exact (DeviceFrame.of_kbd rfl).trans ((pushKbd_frame _ _).trans (.of_kbd rfl))
    · exact (pushKbd_frame s _).trans (.of_kbd rfl)

theorem execPs2MouseEvent_frame (ex ey ez : Int) (b : Byte) :
    HoldsOfNext (DeviceFrame .mouse s) (execPs2MouseEvent ex ey ez b s) := by
  unfold execPs2MouseEvent
  dsimp only
  split_ifs
  · exact DeviceFrame.of_mouse rfl
  · exact DeviceFrame.of_mouse rfl
  · exact (DeviceFrame.of_mouse rfl).trans (mouseSyncLoop_frame _ _)
  · exact .refl .mouse s

/-- The frame of an instruction: that of its channel where it acts on one, else that of its device. -/
def InstrFrame (i : Instr) (s t : State) : Prop :=
  match i.channel with
  | some c => ChannelFrame c s t
  | none => DeviceFrame i.device s t

/-- Every instruction stays inside its frame, one arm per row or group of rows with one effect. -/
theorem exec_frame : ∀ i : Instr, HoldsOfNext (InstrFrame i s) (exec i s)
  | .cmdNull c _ _ | .cmdHi c _ _ | .cmdUnassigned10 c _ _ | .cmdUnassigned18 c _ _ | .cmdUnassigned20 c _ _
  | .cmdUnassigned30 c _ _ => latchPointer_frame c s _
  | .cmdClrTxint c _ _ => (clearTx_frame c s).trans (latchPointer_frame c _ _)
  | .cmdClrIus c _ _ => (clearIUS_frame c s).trans (latchPointer_frame c _ _)
  | .wr1 c _ | .wr2 c _ | .wr3 c _ | .wr6 c _ | .wr7 c _ | .wr8 c _ | .wr9Store c _ | .wr10 c _ | .wr11 c _
  | .wr14 c _ | .wr15 c _ => storeWR_frame c s _ _
  | .wr4 c _ | .wr5 c _ => (storeWR_frame c s _ _).trans (updateParameters_frame c _)
  | .wr12Brglo c _ | .wr13Brghi c _ =>
    ((storeWR_frame c s _ _).trans (setRR_frame c _ (by decide) _)).trans (updateParameters_frame c _)
  | .wr9RstB _ _ => resetChannel_deviceFrame .B s
  | .wr9RstA _ _ => resetChannel_deviceFrame .A s
  | .wr9RstAll _ _ | .esccReset => esccResetAll_deviceFrame s
  | .rr0 c | .rr1 c | .rr2 c | .rr3 c | .rr4 c | .rr5 c | .rr6 c | .rr7 c | .rr8 c | .rr9 c | .rr10 c | .rr11 c
  | .rr12 c | .rr13 c | .rr14 c | .rr15 c => readRR_frame c s _
  | .dwSerial c v => execDwSerial_frame c s v
  | .dwMouse c v | .dwKbdTxoff c v | .skOther c v => dataWrite_frame c s v fun u => .refl c u
  | .skReset c | .skLayout07 c | .skLayout0F c => dataWrite_frame c s _ fun u => sunReply_frame c u _
  | .skSetLeds c | .skLedMask c _ => dataWrite_frame c s _ fun u => modChan_frame c u rfl
  | .dr c => execDr_frame c s
  | .receive c b => execReceive_frame c s b
  | .receiveBreak c => execReceiveBreak_frame c s
  | .keyEvent c q down => execKeyEvent_frame c s q down
  | .mouseEvent c dx dy dz buttons => execMouseEvent_frame c s dx dy dz buttons
  | .kbd00 | .kbd05 | .kbdEcho | .kbdOther _ => pushKbd_frame s _
  | .kbdSetLeds | .kbdScancode | .kbdSetRate | .kbdEnable | .kbdResetDisable | .kbdResetEnable =>
    (DeviceFrame.of_kbd rfl).trans (pushKbd_frame _ _)
  | .kbdGetId | .kbdEmit _ => pushKbdAll_frame s _
  | .kbdResetCmd => (DeviceFrame.of_kbd rfl).trans (pushKbdAll_frame _ _)
  | .kbdArgScancode v => execKbdArgScancode_frame s v
  | .kbdArgSetLeds _ => (DeviceFrame.of_kbd rfl).trans ((pushKbd_frame _ _).trans (.of_kbd rfl))
  | .kbdArgSetRate _ => (pushKbd_frame s _).trans (.of_kbd rfl)
  | .kbdRead => ((DeviceFrame.of_kbd rfl).trans (popKbd_frame _)).trans (emit_deviceFrame _ .kbd _)
  | .kbdSetTranslate _ | .kbdReset => DeviceFrame.of_kbd rfl
  | .auxSetScale11 | .auxSetScale21 | .auxSetStream | .auxSetRemote | .auxEnableDev | .auxDisableDev | .auxSetRes
  | .auxSetSample | .auxResetWrap | .auxSetWrap | .auxWrapExit | .auxSetDefault =>
    (DeviceFrame.of_mouse rfl).trans (pushMouse_frame _ _)
  | .auxGetScale | .auxGetType => pushMouseAll_frame s _
  | .auxPoll => (pushMouse_frame s _).trans (sendPacket_frame _)
  | .auxReset => (DeviceFrame.of_mouse rfl).trans (pushMouseAll_frame _ _)
  | .auxOther _ => .refl .mouse s
  | .auxWrapEcho v => pushMouse_frame s v
  | .auxArgSetRes _ | .auxArgSetSample _ =>
    (DeviceFrame.of_mouse rfl).trans ((pushMouse_frame _ _).trans (.of_mouse rfl))
  | .mouseRead => ((DeviceFrame.of_mouse rfl).trans (popMouse_frame _)).trans (emit_deviceFrame _ .mouse _)
  | .ps2MouseEvent dx dy dz buttons => execPs2MouseEvent_frame s dx dy dz buttons
  | .mouseReset => DeviceFrame.of_mouse rfl

/-- An instruction that acts on a channel is one of the ESCC. -/
theorem device_of_channel {i : Instr} {c : Chan} (h : i.channel = some c) : i.device = .escc := by
  cases i <;> simp only [Instr.channel, reduceCtorEq] at h <;> rfl

variable {s} {t : State} {i : Instr}

theorem instrFrame_of_exec (h : exec i s = .next t) : InstrFrame i s t := by
  have hframe := exec_frame s i
  rw [h] at hframe
  exact hframe

theorem InstrFrame.channel {c : Chan} (h : InstrFrame i s t) (hc : i.channel = some c) : ChannelFrame c s t := by
  unfold InstrFrame at h
  rw [hc] at h
  exact h

theorem InstrFrame.device (h : InstrFrame i s t) : DeviceFrame i.device s t := by
  cases hc : i.channel with
  | none =>
    unfold InstrFrame at h
    rw [hc] at h
    exact h
  | some c =>
    rw [device_of_channel hc]
    exact (h.channel hc).toDeviceFrame

end Instructions

/-! ## The statements -/

/-- Settles O5: the blocks 0 to 4 of `2 ^ k` bytes, one by one. -/
theorem addressMap : Obligations.AddressMap := fun _ _ hd =>
  ⟨decodeOffset_block 0 hd, decodeOffset_block 1 hd, decodeOffset_block 2 hd, decodeOffset_block 3 hd,
    decodeOffset_block 4 hd⟩

/-- Settles O8: the three fetches that are no instruction. -/
theorem stepWithoutInstruction : Obligations.StepWithoutInstruction := by
  refine fun s => ⟨fun hnil => step_of_fetch_idle (fetch_of_inputs_nil hnil), fun o rest hcons => ?_⟩
  have hfetch := fetch_of_inputs_cons hcons
  refine ⟨fun helsewhere => ?_, fun why hrefused => ?_⟩
  · rw [helsewhere] at hfetch
    exact step_of_fetch_elsewhere hfetch
  · rw [hrefused] at hfetch
    exact step_of_fetch_refused hfetch

/-- Settles O36: every instruction stays inside the frame of its channel and of its device. -/
theorem isolation : Obligations.Isolation := by
  intro i s t hexec
  have hframe := instrFrame_of_exec hexec
  obtain ⟨hchannels, hkbd, hmouse⟩ := hframe.device
  refine ⟨hchannels, hkbd, hmouse, fun c hc => ?_⟩
  have hch := hframe.channel hc
  exact ⟨hch.sibling, hch.registers, hch.pendingB⟩

end Sys2Proof.Machine
end

section
/-! PROOFS. The decoder and the encoder read the tables of spec/30_encoding.md in the two directions (R110 to R129;
20 R81, R92): the fields of a control byte, the checks of the caller's contract, what each port's decoder reads for a
row of the table, and the two round trips. -/

namespace Sys2Proof.Machine

/-! ## The fields of a control byte (30 R111, R113) -/

theorem cw0Byte_ign (ign : BitVec 2) (cmd ptr : BitVec 3) : (cw0Byte ign cmd ptr).extractLsb' 6 2 = ign := by
  rw [cw0Byte, BitVec.extractLsb'_append_eq_of_le (by decide), BitVec.extractLsb'_append_eq_left]

theorem cw0Byte_ptr (ign : BitVec 2) (cmd ptr : BitVec 3) : (cw0Byte ign cmd ptr).extractLsb' 0 3 = ptr :=
  BitVec.extractLsb'_append_eq_right

theorem cw0Byte_commandBits (ign : BitVec 2) (cmd ptr : BitVec 3) :
    cw0Byte ign cmd ptr &&& 0x38 = cw0Byte 0 cmd 0 :=
  calc (ign ++ cmd ++ ptr) &&& (0#2 ++ BitVec.allOnes 3 ++ 0#3)
    _ = 0#2 ++ cmd ++ 0#3 := by
      rw [BitVec.and_append, BitVec.and_append, BitVec.and_zero, BitVec.and_allOnes, BitVec.and_zero]

theorem cw0Byte_fields (v : Byte) : cw0Byte (v.extractLsb' 6 2) (v.extractLsb' 3 3) (v.extractLsb' 0 3) = v := by
  rw [cw0Byte, BitVec.extractLsb'_append_extractLsb'_eq_extractLsb' (by rfl),
    BitVec.extractLsb'_append_extractLsb'_eq_extractLsb' (by rfl)]
  exact BitVec.extractLsb'_eq_self

theorem cw9Byte_low (rst : BitVec 2) (low : BitVec 6) : (cw9Byte rst low).extractLsb' 0 6 = low :=
  BitVec.extractLsb'_append_eq_right

theorem cw9Byte_resetBits (rst : BitVec 2) (low : BitVec 6) : cw9Byte rst low &&& 0xC0 = cw9Byte rst 0 :=
  calc (rst ++ low) &&& (BitVec.allOnes 2 ++ 0#6)
    _ = rst ++ 0#6 := by rw [BitVec.and_append, BitVec.and_allOnes, BitVec.and_zero]

theorem cw9Byte_fields (v : Byte) : cw9Byte (v.extractLsb' 6 2) (v.extractLsb' 0 6) = v := by
  rw [cw9Byte, BitVec.extractLsb'_append_extractLsb'_eq_extractLsb' (by rfl)]
  exact BitVec.extractLsb'_eq_self

theorem exists_ofNat_eq {w : Nat} (x : BitVec w) : ∃ n, n < 2 ^ w ∧ x = BitVec.ofNat w n :=
  ⟨x.toNat, x.isLt, by rw [BitVec.ofNat_toNat, BitVec.setWidth_eq]⟩

/-- The row of format CW0 with command `cmd` (R111). -/
def commandRow (cmd : BitVec 3) : Chan → BitVec 2 → BitVec 3 → Instr :=
  match cmd.toNat with
  | 0 => .cmdNull
  | 1 => .cmdHi
  | 2 => .cmdUnassigned10
  | 3 => .cmdUnassigned18
  | 4 => .cmdUnassigned20
  | 5 => .cmdClrTxint
  | 6 => .cmdUnassigned30
  | _ => .cmdClrIus

/-- The row of format CW9 with reset code `rst` (R113). -/
def resetCodeRow (rst : BitVec 2) : Chan → BitVec 6 → Instr :=
  match rst.toNat with
  | 0 => .wr9Store
  | 1 => .wr9RstB
  | 2 => .wr9RstA
  | _ => .wr9RstAll

theorem decodeCommand_cw0Byte (c : Chan) (ign : BitVec 2) (cmd ptr : BitVec 3) :
    decodeCommand c (cw0Byte ign cmd ptr) = commandRow cmd c ign ptr := by
  simp only [decodeCommand, cw0Byte_ign, cw0Byte_ptr, cw0Byte_commandBits]
  obtain ⟨n, hn, rfl⟩ := exists_ofNat_eq cmd
  interval_cases n <;> rfl

theorem decodeWr9_cw9Byte (c : Chan) (rst : BitVec 2) (low : BitVec 6) :
    decodeWr9 c (cw9Byte rst low) = resetCodeRow rst c low := by
  simp only [decodeWr9, cw9Byte_low, cw9Byte_resetBits]
  obtain ⟨n, hn, rfl⟩ := exists_ofNat_eq rst
  interval_cases n <;> rfl

/-! ## The checks of the caller's contract (60 R341) -/

theorem chanOfIndex_eq_some_iff {n : Nat} {c : Chan} : Chan.ofIndex n = some c ↔ n = c.index := by
  cases c <;> rcases n with _ | _ | n <;> simp [Chan.ofIndex, Chan.index]

theorem withByte_toNat (v : Byte) (k : Byte → Instr) : withByte v.toNat k = .instr (k v) := by
  simp only [withByte, v.isLt, if_true, BitVec.ofNat_toNat, BitVec.setWidth_eq]

theorem withByte_eq_instr {value : Nat} {k : Byte → Instr} {i : Instr} (h : withByte value k = .instr i) :
    ∃ v : Byte, value = v.toNat ∧ i = k v := by
  unfold withByte at h
  split_ifs at h with hlt
  exact ⟨.ofNat 8 value, (Nat.mod_eq_of_lt hlt).symm, (Decoded.instr.inj h).symm⟩

theorem withChan_index (c : Chan) (k : Chan → Decoded) : withChan c.index k = k c := by
  simp only [withChan, chanOfIndex_eq_some_iff.mpr rfl]

theorem withChan_eq_instr {n : Nat} {k : Chan → Decoded} {i : Instr} (h : withChan n k = .instr i) :
    ∃ c, n = c.index ∧ k c = .instr i := by
  unfold withChan at h
  split at h
  · next c hc => exact ⟨c, chanOfIndex_eq_some_iff.mp hc, h⟩
  · cases h

/-- The ports of the ESCC window (20 R81). -/
def IsEsccPort : Port → Prop
  | .ctrl _ | .data _ => True
  | .kbd | .mouse => False

theorem isEsccPort_of_decodeOffset {k offset : Nat} {port : Port} (h : decodeOffset k offset = some port) :
    IsEsccPort port := by
  unfold decodeOffset at h
  dsimp only at h
  split_ifs at h <;> cases h <;> exact trivial

theorem decodeOffset_portOffset (k : Nat) {port : Port} (h : IsEsccPort port) :
    decodeOffset k (portOffset k port) = some port := by
  have hblock (j : Nat) := decodeOffset_block j (Nat.two_pow_pos k)
  rcases port with c | c | _ | _
  · simp only [portOffset, Nat.shiftLeft_eq]
    cases c <;> exact hblock _
  · simp only [portOffset, Nat.shiftLeft_eq]
    cases c <;> exact hblock _
  · cases h
  · cases h

theorem withAccess_portOffset (k : Nat) {port : Port} (h : IsEsccPort port) (f : Port → Decoded) :
    withAccess k (portOffset k port) 1 f = f port := by
  simp only [withAccess, decodeOffset_portOffset k h, if_true]

theorem withAccess_eq_instr {k offset size : Nat} {f : Port → Decoded} {i : Instr}
    (h : withAccess k offset size f = .instr i) :
    ∃ port, decodeOffset k offset = some port ∧ size = 1 ∧ f port = .instr i := by
  unfold withAccess at h
  split at h
  · cases h
  · next port hport =>
    split_ifs at h with hsize
    exact ⟨port, hport, hsize, h⟩

/-! ## The operations of a port -/

/-- A byte written to a port passes the checks, and the port's decoder reads it. -/
theorem decode_writeOp (p : Protocol) (port : Port) (v : Byte) :
    decode p (writeOp p.itShift port v) = .instr (decodeWrite p port v) := by
  cases port with
  | ctrl c | data c => exact (withAccess_portOffset _ (by trivial) _).trans (withByte_toNat v _)
  | kbd | mouse => exact withByte_toNat v _

theorem decode_readOp (p : Protocol) (port : Port) :
    decode p (readOp p.itShift port) = .instr (decodeRead p port) := by
  cases port with
  | ctrl c | data c => exact withAccess_portOffset _ (by trivial) _
  | kbd | mouse => rfl

/-! ## Rows to bytes: what each port's decoder reads where a row applies -/

section Rows

variable {p : Protocol} {c : Chan}

theorem decode_command (h : ((p.chan c).sel == 0) = true) (ign : BitVec 2) (cmd ptr : BitVec 3) :
    decode p (writeOp p.itShift (.ctrl c) (cw0Byte ign cmd ptr)) = .instr (commandRow cmd c ign ptr) := by
  rw [decode_writeOp, decodeWrite, decodeCtrlWrite, if_pos (eq_of_beq h), decodeCommand_cw0Byte]

theorem decode_register {n : BitVec 4} (h : ((p.chan c).sel == n) = true) (hn : n ≠ 0) (v : Byte) :
    decode p (writeOp p.itShift (.ctrl c) v) = .instr (decodeRegister c n v) := by
  rw [decode_writeOp, decodeWrite, decodeCtrlWrite, eq_of_beq h, if_neg hn]

theorem decode_resetCode (h : ((p.chan c).sel == 9) = true) (rst : BitVec 2) (low : BitVec 6) :
    decode p (writeOp p.itShift (.ctrl c) (cw9Byte rst low)) = .instr (resetCodeRow rst c low) := by
  rw [decode_register h (by decide), ← decodeWr9_cw9Byte]
  rfl

theorem decode_readRegister {n : BitVec 4} (h : ((p.chan c).sel == n) = true) :
    decode p (readOp p.itShift (.ctrl c)) = .instr (decodeCtrlRead c { p.chan c with sel := n }) := by
  rw [decode_readOp, ← eq_of_beq h]
  rfl

/-- The row of a command byte of the Sun keyboard (R114). -/
def sunCommandRow (c : Chan) (v : Byte) : Instr :=
  if v = 0x01 then .skReset c
  else if v = 0x07 then .skLayout07 c
  else if v = 0x0E then .skSetLeds c
  else if v = 0x0F then .skLayout0F c
  else .skOther c v

theorem decodeDataWrite_serial {x : ChanPhase} (h : (x.role == .serial) = true) (v : Byte) :
    decodeDataWrite c x v = .dwSerial c v := by
  rw [decodeDataWrite, eq_of_beq h]

theorem decodeDataWrite_mouse {x : ChanPhase} (h : (x.role == .mouse) = true) (v : Byte) :
    decodeDataWrite c x v = .dwMouse c v := by
  rw [decodeDataWrite, eq_of_beq h]

theorem decodeDataWrite_txoff {x : ChanPhase} (h : (x.role == .keyboard && !x.txEnabled) = true) (v : Byte) :
    decodeDataWrite c x v = .dwKbdTxoff c v := by
  simp only [Bool.and_eq_true, beq_iff_eq, Bool.not_eq_true'] at h
  simp only [decodeDataWrite, h, Bool.false_eq_true, if_false]

theorem decodeDataWrite_ledMask {x : ChanPhase} (h : (x.role == .keyboard && x.txEnabled && x.ledLatch) = true)
    (v : Byte) : decodeDataWrite c x v = .skLedMask c v := by
  simp only [Bool.and_eq_true, beq_iff_eq] at h
  simp only [decodeDataWrite, h, if_true]

theorem decodeDataWrite_sunCommand {x : ChanPhase} (h : x.takesSunCommand = true) (v : Byte) :
    decodeDataWrite c x v = sunCommandRow c v := by
  simp only [ChanPhase.takesSunCommand, Bool.and_eq_true, beq_iff_eq, Bool.not_eq_true'] at h
  simp only [decodeDataWrite, h, if_true, Bool.false_eq_true, if_false, sunCommandRow]

theorem sunCommandRow_other {v : Byte} (h : (!isSunCommand v) = true) : sunCommandRow c v = .skOther c v := by
  simp only [isSunCommand, Bool.not_eq_true', Bool.or_eq_false_iff, beq_eq_false_iff_ne] at h
  simp only [sunCommandRow, h, if_false]

theorem decodeKbdCommand_other {v : Byte} (h : (!isKbdCommand v) = true) : decodeKbdCommand v = .kbdOther v := by
  simp only [isKbdCommand, Bool.not_eq_true', Bool.or_eq_false_iff, beq_eq_false_iff_ne] at h
  simp only [decodeKbdCommand, h, if_false]

theorem decodeAuxCommand_other {v : Byte} (h : (!isAuxCommand v) = true) : decodeAuxCommand v = .auxOther v := by
  simp only [isAuxCommand, Bool.not_eq_true', Bool.or_eq_false_iff, beq_eq_false_iff_ne] at h
  simp only [decodeAuxCommand, h, if_false]

theorem decodeMouseWrite_reset (w : Bool) : decodeMouseWrite none w 0xFF = .auxReset := by
  cases w <;> rfl

theorem decodeMouseWrite_wrapEcho {v : Byte} (h : (v != 0xEC && v != 0xFF) = true) :
    decodeMouseWrite none true v = .auxWrapEcho v := by
  simp only [Bool.and_eq_true, bne_iff_ne] at h
  simp only [decodeMouseWrite, bne_iff_ne.mpr h.2, Bool.and_true, if_true, h.1, if_false]

theorem decode_data {v : Byte} {i : Instr} (h : decodeDataWrite c (p.chan c) v = i) :
    decode p (writeOp p.itShift (.data c) v) = .instr i := by
  rw [decode_writeOp, decodeWrite, h]

theorem decode_kbd {a : Option KbdArg} (h : (p.kbdArg == a) = true) (v : Byte) :
    decode p (writeOp p.itShift .kbd v) = .instr (decodeKbdWrite a v) := by
  rw [decode_writeOp, decodeWrite, eq_of_beq h]

theorem decode_mouse {a : Option AuxArg} (h : (p.auxArg == a) = true) (v : Byte) :
    decode p (writeOp p.itShift .mouse v) = .instr (decodeMouseWrite a p.wrap v) := by
  rw [decode_writeOp, decodeWrite, eq_of_beq h]

theorem decode_auxCommand (h : (p.auxArg == none && !p.wrap) = true) (v : Byte) :
    decode p (writeOp p.itShift .mouse v) = .instr (decodeAuxCommand v) := by
  obtain ⟨harg, hwrap⟩ := Bool.and_eq_true_iff.mp h
  rw [decode_mouse harg, Bool.not_eq_eq_eq_not.mp hwrap]
  rfl

theorem decode_wrapped (h : (p.auxArg == none && p.wrap) = true) (v : Byte) :
    decode p (writeOp p.itShift .mouse v) = .instr (decodeMouseWrite none true v) := by
  obtain ⟨harg, hwrap⟩ := Bool.and_eq_true_iff.mp h
  rw [decode_mouse harg, hwrap]

/-- The round trip from a row, one arm per format or group of rows with one `when`. -/
theorem decode_encode : ∀ i : Instr, i.wf = true → i.when p = true → decode p (encode p.itShift i) = .instr i
  | .cmdNull _ ign ptr, _, h | .cmdHi _ ign ptr, _, h | .cmdUnassigned10 _ ign ptr, _, h
  | .cmdUnassigned18 _ ign ptr, _, h | .cmdUnassigned20 _ ign ptr, _, h | .cmdClrTxint _ ign ptr, _, h
  | .cmdUnassigned30 _ ign ptr, _, h | .cmdClrIus _ ign ptr, _, h => decode_command h ign _ ptr
  | .wr1 _ v, _, h | .wr2 _ v, _, h | .wr3 _ v, _, h | .wr4 _ v, _, h | .wr5 _ v, _, h | .wr6 _ v, _, h
  | .wr7 _ v, _, h | .wr8 _ v, _, h | .wr10 _ v, _, h | .wr11 _ v, _, h | .wr12Brglo _ v, _, h
  | .wr13Brghi _ v, _, h | .wr14 _ v, _, h | .wr15 _ v, _, h => decode_register h (by decide) v
  | .wr9Store _ low, _, h | .wr9RstB _ low, _, h | .wr9RstA _ low, _, h | .wr9RstAll _ low, _, h =>
    decode_resetCode h _ low
  | .rr0 _, _, h | .rr1 _, _, h | .rr2 _, _, h | .rr3 _, _, h | .rr4 _, _, h | .rr5 _, _, h | .rr6 _, _, h
  | .rr7 _, _, h | .rr8 _, _, h | .rr9 _, _, h | .rr10 _, _, h | .rr11 _, _, h | .rr12 _, _, h
  | .rr13 _, _, h | .rr14 _, _, h | .rr15 _, _, h => decode_readRegister h
  | .dwSerial _ v, _, h => decode_data (decodeDataWrite_serial h v)
  | .dwMouse _ v, _, h => decode_data (decodeDataWrite_mouse h v)
  | .dwKbdTxoff _ v, _, h => decode_data (decodeDataWrite_txoff h v)
  | .skLedMask _ v, _, h => decode_data (decodeDataWrite_ledMask h v)
  | .skReset _, _, h | .skLayout07 _, _, h | .skSetLeds _, _, h | .skLayout0F _, _, h =>
    decode_data (decodeDataWrite_sunCommand h _)
  | .skOther _ v, hwf, h => decode_data ((decodeDataWrite_sunCommand h v).trans (sunCommandRow_other hwf))
  | .dr _, _, _ => decode_readOp p (.data _)
  | .receive c b, _, _ => (withChan_index c _).trans (withByte_toNat b _)
  | .receiveBreak c, _, _ | .keyEvent c _ _, _, _ | .mouseEvent c _ _ _ _, _, _ => withChan_index c _
  | .kbd00, _, h | .kbd05, _, h | .kbdSetLeds, _, h | .kbdEcho, _, h | .kbdScancode, _, h | .kbdGetId, _, h
  | .kbdSetRate, _, h | .kbdEnable, _, h | .kbdResetDisable, _, h | .kbdResetEnable, _, h
  | .kbdResetCmd, _, h | .kbdArgScancode _, _, h | .kbdArgSetLeds _, _, h | .kbdArgSetRate _, _, h =>
    decode_kbd h _
  | .kbdOther v, hwf, h => (decode_kbd h v).trans (congrArg _ (decodeKbdCommand_other hwf))
  | .kbdEmit k, _, _ => withByte_toNat k _
  | .auxSetScale11, _, h | .auxSetScale21, _, h | .auxSetRes, _, h | .auxGetScale, _, h | .auxSetStream, _, h
  | .auxPoll, _, h | .auxResetWrap, _, h | .auxSetWrap, _, h | .auxSetRemote, _, h | .auxGetType, _, h
  | .auxSetSample, _, h | .auxEnableDev, _, h | .auxDisableDev, _, h | .auxSetDefault, _, h =>
    decode_auxCommand h _
  | .auxReset, _, h => (decode_mouse h _).trans (congrArg _ (decodeMouseWrite_reset p.wrap))
  | .auxOther v, hwf, h => (decode_auxCommand h v).trans (congrArg _ (decodeAuxCommand_other hwf))
  | .auxWrapExit, _, h => decode_wrapped h _
  | .auxWrapEcho v, hwf, h => (decode_wrapped h v).trans (congrArg _ (decodeMouseWrite_wrapEcho hwf))
  | .auxArgSetRes v, _, h | .auxArgSetSample v, _, h => decode_mouse h v
  | .esccReset, _, _ | .kbdRead, _, _ | .kbdSetTranslate _, _, _ | .kbdReset, _, _ | .mouseRead, _, _
  | .ps2MouseEvent .., _, _ | .mouseReset, _, _ => rfl

end Rows

/-! ## Bytes to rows: what a port's decoder reads is a row that applies and holds the byte -/

/-- In protocol state `p`, `o` carries `i`: `i` is well-formed, its row applies, and `o` is its encoding. -/
structure Carries (p : Protocol) (o : Op) (i : Instr) : Prop where
  wf : i.wf = true
  row : i.when p = true
  encode : encode p.itShift i = o

/-- One test of a chain of command bytes: the byte named, or what the rest of the chain reads from another. -/
theorem Carries.ite {p : Protocol} {port : Port} {v w : Byte} {i j : Instr}
    (hi : Carries p (writeOp p.itShift port w) i) (hj : v ≠ w → Carries p (writeOp p.itShift port v) j) :
    Carries p (writeOp p.itShift port v) (if v = w then i else j) := by
  split_ifs with h
  · exact h ▸ hi
  · exact hj h

section Bytes

variable {p : Protocol} {c : Chan}

theorem commandRow_carries (h : ((p.chan c).sel == 0) = true) (ign : BitVec 2) (cmd ptr : BitVec 3) :
    Carries p (writeOp p.itShift (.ctrl c) (cw0Byte ign cmd ptr)) (commandRow cmd c ign ptr) := by
  obtain ⟨n, hn, rfl⟩ := exists_ofNat_eq cmd
  interval_cases n <;> exact ⟨rfl, h, rfl⟩

theorem resetCodeRow_carries (h : ((p.chan c).sel == 9) = true) (rst : BitVec 2) (low : BitVec 6) :
    Carries p (writeOp p.itShift (.ctrl c) (cw9Byte rst low)) (resetCodeRow rst c low) := by
  obtain ⟨n, hn, rfl⟩ := exists_ofNat_eq rst
  interval_cases n <;> exact ⟨rfl, h, rfl⟩

theorem decodeCommand_carries (h : ((p.chan c).sel == 0) = true) (v : Byte) :
    Carries p (writeOp p.itShift (.ctrl c) v) (decodeCommand c v) := by
  rw [← cw0Byte_fields v, decodeCommand_cw0Byte]
  exact commandRow_carries h _ _ _

theorem decodeWr9_carries (h : ((p.chan c).sel == 9) = true) (v : Byte) :
    Carries p (writeOp p.itShift (.ctrl c) v) (decodeWr9 c v) := by
  rw [← cw9Byte_fields v, decodeWr9_cw9Byte]
  exact resetCodeRow_carries h _ _

theorem decodeRegister_carries {n : BitVec 4} (h : ((p.chan c).sel == n) = true) (hn : n ≠ 0) (v : Byte) :
    Carries p (writeOp p.itShift (.ctrl c) v) (decodeRegister c n v) := by
  obtain ⟨k, hk, rfl⟩ := exists_ofNat_eq n
  interval_cases k
  · exact absurd rfl hn
  iterate 8 exact ⟨rfl, h, rfl⟩
  · exact decodeWr9_carries h v
  all_goals exact ⟨rfl, h, rfl⟩

theorem decodeCtrlRead_carries {n : BitVec 4} (h : ((p.chan c).sel == n) = true) :
    Carries p (readOp p.itShift (.ctrl c)) (decodeCtrlRead c { p.chan c with sel := n }) := by
  obtain ⟨k, hk, rfl⟩ := exists_ofNat_eq n
  interval_cases k <;> exact ⟨rfl, h, rfl⟩

theorem sunCommandRow_carries (h : (p.chan c).takesSunCommand = true) (v : Byte) :
    Carries p (writeOp p.itShift (.data c) v) (sunCommandRow c v) := by
  unfold sunCommandRow
  iterate 4 refine .ite ⟨rfl, h, rfl⟩ fun _ => ?_
  have hother : (!isSunCommand v) = true := by
    simp only [isSunCommand, Bool.not_eq_true', Bool.or_eq_false_iff, beq_eq_false_iff_ne, *, ne_eq,
      not_false_eq_true, and_self]
  exact ⟨hother, h, rfl⟩

theorem decodeKbdCommand_carries (h : (p.kbdArg == none) = true) (v : Byte) :
    Carries p (writeOp p.itShift .kbd v) (decodeKbdCommand v) := by
  unfold decodeKbdCommand
  iterate 11 refine .ite ⟨rfl, h, rfl⟩ fun _ => ?_
  have hother : (!isKbdCommand v) = true := by
    simp only [isKbdCommand, Bool.not_eq_true', Bool.or_eq_false_iff, beq_eq_false_iff_ne, *, ne_eq,
      not_false_eq_true, and_self]
  exact ⟨hother, h, rfl⟩

theorem decodeAuxCommand_carries (h : (p.auxArg == none && !p.wrap) = true) (v : Byte) :
    Carries p (writeOp p.itShift .mouse v) (decodeAuxCommand v) := by
  unfold decodeAuxCommand
  iterate 14 refine .ite ⟨rfl, h, rfl⟩ fun _ => ?_
  refine .ite ⟨rfl, (Bool.and_eq_true_iff.mp h).1, rfl⟩ fun _ => ?_
  have hother : (!isAuxCommand v) = true := by
    simp only [isAuxCommand, Bool.not_eq_true', Bool.or_eq_false_iff, beq_eq_false_iff_ne, *, ne_eq,
      not_false_eq_true, and_self]
  exact ⟨hother, h, rfl⟩

theorem decodeDataWrite_carries (v : Byte) :
    Carries p (writeOp p.itShift (.data c) v) (decodeDataWrite c (p.chan c) v) := by
  cases hrole : (p.chan c).role with
  | serial =>
    have h : ((p.chan c).role == .serial) = true := beq_iff_eq.mpr hrole
    rw [decodeDataWrite_serial h]
    exact ⟨rfl, h, rfl⟩
  | mouse =>
    have h : ((p.chan c).role == .mouse) = true := beq_iff_eq.mpr hrole
    rw [decodeDataWrite_mouse h]
    exact ⟨rfl, h, rfl⟩
  | keyboard =>
    cases htx : (p.chan c).txEnabled with
    | false =>
      have h : ((p.chan c).role == .keyboard && !(p.chan c).txEnabled) = true := by rw [hrole, htx]; rfl
      rw [decodeDataWrite_txoff h]
      exact ⟨rfl, h, rfl⟩
    | true =>
      cases hlatch : (p.chan c).ledLatch with
      | true =>
        have h : ((p.chan c).role == .keyboard && (p.chan c).txEnabled && (p.chan c).ledLatch) = true := by
          rw [hrole, htx, hlatch]; rfl
        rw [decodeDataWrite_ledMask h]
        exact ⟨rfl, h, rfl⟩
      | false =>
        have h : (p.chan c).takesSunCommand = true := by
          rw [ChanPhase.takesSunCommand, hrole, htx, hlatch]; rfl
        rw [decodeDataWrite_sunCommand h]
        exact sunCommandRow_carries h v

theorem decodeMouseWrite_carries (v : Byte) :
    Carries p (writeOp p.itShift .mouse v) (decodeMouseWrite p.auxArg p.wrap v) := by
  cases harg : p.auxArg with
  | some a => cases a <;> exact ⟨rfl, beq_iff_eq.mpr harg, rfl⟩
  | none =>
    cases hwrap : p.wrap with
    | false => exact decodeAuxCommand_carries (by rw [harg, hwrap]; rfl) v
    | true =>
      have h : (p.auxArg == none && p.wrap) = true := by rw [harg, hwrap]; rfl
      by_cases hFF : v = 0xFF
      · rw [hFF, decodeMouseWrite_reset]
        exact ⟨rfl, beq_iff_eq.mpr harg, rfl⟩
      · by_cases hEC : v = 0xEC
        · rw [hEC]
          exact ⟨rfl, h, rfl⟩
        · have hecho : (v != 0xEC && v != 0xFF) = true := by
            rw [Bool.and_eq_true]
            exact ⟨bne_iff_ne.mpr hEC, bne_iff_ne.mpr hFF⟩
          rw [decodeMouseWrite_wrapEcho hecho]
          exact ⟨hecho, h, rfl⟩

theorem decodeWrite_carries (p : Protocol) (port : Port) (v : Byte) :
    Carries p (writeOp p.itShift port v) (decodeWrite p port v) := by
  cases port with
  | ctrl c =>
    rw [decodeWrite, decodeCtrlWrite]
    split_ifs with hsel
    · exact decodeCommand_carries (beq_iff_eq.mpr hsel) v
    · exact decodeRegister_carries (beq_self_eq_true _) hsel v
  | data c => exact decodeDataWrite_carries v
  | kbd =>
    rw [decodeWrite]
    cases harg : p.kbdArg with
    | none => exact decodeKbdCommand_carries (beq_iff_eq.mpr harg) v
    | some a => cases a <;> exact ⟨rfl, beq_iff_eq.mpr harg, rfl⟩
  | mouse => exact decodeMouseWrite_carries v

theorem decodeRead_carries (p : Protocol) (port : Port) : Carries p (readOp p.itShift port) (decodeRead p port) := by
  cases port with
  | ctrl c => exact decodeCtrlRead_carries (beq_self_eq_true _)
  | data c | kbd | mouse => exact ⟨rfl, rfl, rfl⟩

end Bytes

/-! ## Offsets of one port (20 R92) -/

theorem canonical_esccWrite {k offset : Nat} {port : Port} (h : decodeOffset k offset = some port) (v : Byte) :
    (Op.esccWrite offset 1 v.toNat).canonical k = writeOp k port v := by
  have hescc := isEsccPort_of_decodeOffset h
  rw [Op.canonical, h]
  cases port with
  | ctrl c | data c => rfl
  | kbd | mouse => cases hescc

theorem canonical_esccRead {k offset : Nat} {port : Port} (h : decodeOffset k offset = some port) :
    (Op.esccRead offset 1).canonical k = readOp k port := by
  have hescc := isEsccPort_of_decodeOffset h
  rw [Op.canonical, h]
  cases port with
  | ctrl c | data c => rfl
  | kbd | mouse => cases hescc

/-- The round trip from an operation: whatever is decoded is what the operation's canonical form carries. -/
theorem carries_of_decode {p : Protocol} {o : Op} {i : Instr} (h : decode p o = .instr i) :
    Carries p (o.canonical p.itShift) i := by
  cases o with
  | esccWrite offset size value =>
    obtain ⟨port, hport, rfl, hread⟩ := withAccess_eq_instr h
    obtain ⟨v, rfl, rfl⟩ := withByte_eq_instr hread
    rw [canonical_esccWrite hport]
    exact decodeWrite_carries p port v
  | esccRead offset size =>
    obtain ⟨port, hport, rfl, hread⟩ := withAccess_eq_instr h
    cases hread
    rw [canonical_esccRead hport]
    exact decodeRead_carries p port
  | receive n value =>
    obtain ⟨c, rfl, hread⟩ := withChan_eq_instr h
    obtain ⟨v, rfl, rfl⟩ := withByte_eq_instr hread
    exact ⟨rfl, rfl, rfl⟩
  | receiveBreak n | keyEvent n q down | mouseEvent n dx dy dz buttons =>
    obtain ⟨c, rfl, hread⟩ := withChan_eq_instr h
    cases hread
    exact ⟨rfl, rfl, rfl⟩
  | kbdWrite value =>
    obtain ⟨v, rfl, rfl⟩ := withByte_eq_instr h
    exact decodeWrite_carries p .kbd v
  | mouseWrite value =>
    obtain ⟨v, rfl, rfl⟩ := withByte_eq_instr h
    exact decodeWrite_carries p .mouse v
  | kbdEmit keycode =>
    obtain ⟨v, rfl, rfl⟩ := withByte_eq_instr h
    exact ⟨rfl, rfl, rfl⟩
  | esccReset | kbdRead | kbdSetTranslate t | kbdReset | mouseRead | ps2MouseEvent dx dy dz buttons | mouseReset =>
    cases h
    exact ⟨rfl, rfl, rfl⟩

/-! ## The statements -/

/-- Settles O1, row by row. -/
theorem decodeEncode : Obligations.DecodeEncode := fun _ i => decode_encode i

/-- Settles O2, operation by operation. -/
theorem encodeDecode : Obligations.EncodeDecode := fun _ _ _ h =>
  have hcarries := carries_of_decode h
  ⟨hcarries.wf, hcarries.row, hcarries.encode⟩

/-- Settles O6: each sample word is decoded by evaluation. -/
theorem sampleWords : Obligations.SampleWords := by
  unfold Obligations.SampleWords
  decide

end Sys2Proof.Machine
end

section
/-! PROOFS. Every instruction completes in every state (spec/60_exceptions.md R340), and so every byte on every port
has an effect (30_encoding.md R126). -/

namespace Sys2Proof.Machine

/-- The outcome of an instruction is a next state. -/
def Completes (r : Result) : Prop := ∃ t, r = .next t

theorem completes_next (t : State) : Completes (.next t) := ⟨t, rfl⟩

section Instructions

variable (c : Chan) (s : State)

theorem execDr_completes : Completes (execDr c s) := by
  unfold execDr
  cases (s.chan c).role <;> exact completes_next _

theorem execReceive_completes (b : Byte) : Completes (execReceive c b s) := by
  unfold execReceive
  cases (s.chan c).role <;> exact completes_next _

theorem execReceiveBreak_completes : Completes (execReceiveBreak c s) := by
  unfold execReceiveBreak
  cases (s.chan c).role <;> exact completes_next _

theorem execKeyEvent_completes (q : Qcode) (down : Bool) : Completes (execKeyEvent c q down s) := by
  unfold execKeyEvent
  cases (s.chan c).role with
  | serial | mouse => exact completes_next _
  | keyboard =>
    cases (s.chan c).passKey q down with
    | none => exact completes_next _
    | some ch => cases Config.sunKeycode q <;> exact completes_next _

theorem execMouseEvent_completes (dx dy dz : Int) (buttons : Byte) :
    Completes (execMouseEvent c dx dy dz buttons s) := by
  unfold execMouseEvent
  cases (s.chan c).role <;> exact completes_next _

theorem execKbdArgScancode_completes (v : Byte) : Completes (execKbdArgScancode v s) := by
  unfold execKbdArgScancode
  split_ifs
  · exact completes_next _
  · cases scanSetOfArg v <;> exact completes_next _

theorem execPs2MouseEvent_completes (ex ey ez : Int) (b : Byte) : Completes (execPs2MouseEvent ex ey ez b s) := by
  unfold execPs2MouseEvent
  dsimp only
  split_ifs <;> exact completes_next _

end Instructions

/-- Every instruction completes: those with one outcome at once, the others branch by branch. -/
theorem exec_completes (i : Instr) (s : State) : Completes (exec i s) := by
  cases i
  case dr c => exact execDr_completes c s
  case receive c b => exact execReceive_completes c s b
  case receiveBreak c => exact execReceiveBreak_completes c s
  case keyEvent c q down => exact execKeyEvent_completes c s q down
  case mouseEvent c dx dy dz buttons => exact execMouseEvent_completes c s dx dy dz buttons
  case kbdArgScancode v => exact execKbdArgScancode_completes s v
  case ps2MouseEvent ex ey ez b => exact execPs2MouseEvent_completes s ex ey ez b
  all_goals exact completes_next _

/-- Settles O3: both operations of a port are decoded, and what is decoded completes. -/
theorem everyByteHasAnEffect : Obligations.EveryByteHasAnEffect := by
  intro p port v o ho
  obtain rfl | rfl := List.mem_pair.mp ho
  · exact ⟨_, decode_writeOp p port v, exec_completes _⟩
  · exact ⟨_, decode_readOp p port, exec_completes _⟩

end Sys2Proof.Machine
end

section
/-! PROOFS. The bytes of a PS/2 mouse packet (spec/30_encoding.md R119, R121, R122; 46 R313) as numbers: a clamped
amount is read back from its byte, and the flag and button bits do not overlap. -/

namespace Sys2Proof.Machine

/-! ## Clamped amounts (00 R5) -/

theorem clamp127_eq_max_min (x : Int) : clamp127 x = max (-127) (min 127 x) := by
  unfold clamp127
  omega

theorem clamp7_eq_max_min (x : Int) : clamp7 x = max (-7) (min 7 x) := by
  unfold clamp7
  omega

theorem byteOf_clamp127_toInt (x : Int) : (byteOf (clamp127 x)).toInt = max (-127) (min 127 x) := by
  rw [clamp127_eq_max_min]
  exact BitVec.toInt_ofInt_eq_self (by decide) (by omega) (by omega)

/-- The wheel amount of the IMEX variant fits in the low four bits of its byte. -/
theorem byteOf_clamp7_nibble_toInt (x : Int) : ((byteOf (clamp7 x)).setWidth 4).toInt = max (-7) (min 7 x) := by
  rw [clamp7_eq_max_min, byteOf, BitVec.toInt_setWidth, BitVec.toNat_ofInt, Int.bmod]
  omega

/-! ## Bits side by side -/

/-- The button bits put into a byte whose low three bits are clear (R119). -/
theorem or_buttons_toNat (k b : Byte) (hk : k.toNat % 8 = 0) :
    (k ||| (b &&& 0x07)).toNat = k.toNat + b.toNat % 8 := by
  have hmask : b.toNat &&& 7 = b.toNat % 8 := Nat.and_two_pow_sub_one_eq_mod b.toNat 3
  have hhigh : k.toNat = 2 ^ 3 * (k.toNat / 8) := by omega
  have hlow : b.toNat % 8 < 2 ^ 3 := Nat.mod_lt _ (by decide)
  calc (k ||| (b &&& 0x07)).toNat
    _ = k.toNat ||| b.toNat % 8 := congrArg (k.toNat ||| ·) hmask
    _ = 2 ^ 3 * (k.toNat / 8) ||| b.toNat % 8 := by rw [← hhigh]
    _ = 2 ^ 3 * (k.toNat / 8) + b.toNat % 8 := (Nat.two_pow_add_eq_or_of_lt hlow _).symm
    _ = k.toNat + b.toNat % 8 := by rw [← hhigh]

/-- The low nibble of the IMEX variant's fourth byte is the wheel's (R122). -/
theorem wheelByte_low (x b : Byte) :
    ((x &&& 0x0F) ||| ((b &&& 0x18) <<< 1)).extractLsb' 0 4 = x.setWidth 4 := by
  ext i hi
  interval_cases i <;> simp

/-- Its high nibble is the fourth and fifth button (R122). -/
theorem wheelByte_high (x b : Byte) :
    ((x &&& 0x0F) ||| ((b &&& 0x18) <<< 1)).extractLsb' 4 4 = (b.extractLsb' 3 2).setWidth 4 := by
  ext i hi
  interval_cases i <;> simp

theorem toNat_extractLsb'_high (v : Byte) : (v.extractLsb' 4 4).toNat = v.toNat / 16 := by
  rw [BitVec.extractLsb'_toNat, Nat.shiftRight_eq_div_pow]
  omega

theorem wheelByte_high_toNat (x b : Byte) :
    ((x &&& 0x0F) ||| ((b &&& 0x18) <<< 1)).toNat / 16 = b.toNat / 8 % 4 := by
  rw [← toNat_extractLsb'_high, wheelByte_high, BitVec.toNat_setWidth, BitVec.extractLsb'_toNat,
    Nat.shiftRight_eq_div_pow]
  omega

/-! ## The bytes of a packet -/

theorem packetHead_toNat (m : Mouse) :
    m.packetHead.toNat =
      8 + (if m.dx < 0 then 16 else 0) + (if 0 < m.dy then 32 else 0) + m.buttons.toNat % 8 := by
  have hsx : m.sx < 0 ↔ m.dx < 0 := by
    rw [Mouse.sx, clamp127_eq_max_min]
    omega
  have hsy : m.sy < 0 ↔ 0 < m.dy := by
    rw [Mouse.sy, clamp127_eq_max_min]
    omega
  simp only [Mouse.packetHead, hsx, hsy]
  rw [or_buttons_toNat _ _ (by split_ifs <;> rfl)]
  split_ifs <;> rfl

/-- Settles O50: three bytes in every variant, and the fourth byte variant by variant. -/
theorem packetFormat : Obligations.PacketFormat := by
  intro m
  refine ⟨_, _, _, _, rfl, packetHead_toNat m, byteOf_clamp127_toInt m.dx, byteOf_clamp127_toInt (-m.dy), ?_⟩
  cases htype : m.mtype with
  | plain => rfl
  | imps2 =>
    refine ⟨_, rfl, ?_⟩
    rw [Mouse.dz1, htype]
    exact byteOf_clamp127_toInt m.dz
  | imex =>
    refine ⟨_, rfl, ?_, wheelByte_high_toNat _ _⟩
    refine (congrArg BitVec.toInt (wheelByte_low _ _)).trans ?_
    rw [Mouse.dz1, htype]
    exact byteOf_clamp7_nibble_toInt m.dz

end Sys2Proof.Machine
end

section
/-! PROOFS. Pushing any bytes, one after the other, on the queue of a channel and of each PS/2 device
(spec/40_bytequeue.md R140, R143, R144): one push per byte, composed. -/

namespace Sys2Proof.Machine

/-! ## Bytes dropped at the capacity -/

/-- What was dropped from the first bytes makes no room for the later ones. -/
theorem take_append_take (n : Nat) (l m : List Byte) : (l.take n ++ m).take n = (l ++ m).take n := by
  have hroom : n - min n l.length = n - l.length := by omega
  simp only [List.take_append, List.take_take, List.length_take, min_self, hroom]

/-- The bytes accepted into a queue of capacity `n` that holds `l` (R144 (a), (c)): the first, where there is room,
then those for which the first leaves room. -/
theorem accepted_cons (n : Nat) (l : List Byte) (b : Byte) (bs : List Byte) :
    min 1 (n - l.length) + min bs.length (n - ((l ++ [b]).take n).length) =
      min (b :: bs).length (n - l.length) := by
  simp only [List.length_take, List.length_append, List.length_cons, List.length_nil]
  omega

/-- The count never exceeds the capacity (R50). -/
theorem ByteQueue.length_contents_le {C : Nat} [NeZero C] {q : ByteQueue C} (hq : q.wf = true) :
    q.contents.length ≤ C :=
  q.length_contents.trans_le (q.wf_iff.mp hq).1

/-! ## The PS/2 devices: each accepted byte raises the line (60 R357) -/

/-- `push` of any bytes on the keyboard's queue, after an effect. -/
theorem KbdEffect.pushAll (bytes : List Byte) {s t : State} {k : Keyboard} {bs : List Byte} {out : List Output}
    (hq : t.kbd.q.wf = true) (h : KbdEffect s t k bs out) :
    KbdEffect s (pushKbdAll bytes t) k ((bs ++ bytes).take Config.ps2Qcap)
      (out ++ List.replicate (min bytes.length (Config.ps2Qcap - bs.length)) (.kbdIrq true)) := by
  induction bytes generalizing t bs out with
  | nil =>
    have hle : bs.length ≤ Config.ps2Qcap := h.queue ▸ ByteQueue.length_contents_le hq
    simpa [pushKbdAll, List.take_of_length_le hle] using h
  | cons b bytes ih =>
    obtain ⟨hq', hpush⟩ := h.push b hq
    have hrest := ih hq' hpush
    rwa [take_append_take, List.append_assoc, List.singleton_append, List.append_assoc,
      List.replicate_append_replicate, accepted_cons] at hrest

/-- `push` of any bytes on the mouse's queue, after an effect. -/
theorem MouseEffect.pushAll (bytes : List Byte) {s t : State} {m : Mouse} {bs : List Byte} {out : List Output}
    (hq : t.mouse.q.wf = true) (h : MouseEffect s t m bs out) :
    MouseEffect s (pushMouseAll bytes t) m ((bs ++ bytes).take Config.ps2Qcap)
      (out ++ List.replicate (min bytes.length (Config.ps2Qcap - bs.length)) (.mouseIrq true)) := by
  induction bytes generalizing t bs out with
  | nil =>
    have hle : bs.length ≤ Config.ps2Qcap := h.queue ▸ ByteQueue.length_contents_le hq
    simpa [pushMouseAll, List.take_of_length_le hle] using h
  | cons b bytes ih =>
    obtain ⟨hq', hpush⟩ := h.push b hq
    have hrest := ih hq' hpush
    rwa [take_append_take, List.append_assoc, List.singleton_append, List.append_assoc,
      List.replicate_append_replicate, accepted_cons] at hrest

theorem pushKbdAll_replies (bs : List Byte) {s : State} (hs : s.kbd.Sound) :
    KbdReplies s (pushKbdAll bs s) s.kbd bs := by
  have h := (KbdEffect.refl hs).pushAll bs hs.queue
  rwa [ByteQueue.length_contents, List.nil_append] at h

theorem pushMouseAll_replies (bs : List Byte) {s : State} (hs : s.mouse.Sound) :
    MouseReplies s (pushMouseAll bs s) s.mouse bs := by
  have h := (MouseEffect.refl hs).pushAll bs hs.queue
  rwa [ByteQueue.length_contents, List.nil_append] at h

/-! ## A channel: the data-available effect is idempotent (43 R202; 60 R346) -/

/-- A receive condition over one already taken changes no read register. -/
theorem rrReceived_of_received {c : Chan} {s t : State} {q : ByteQueue Config.esccQcap} {out : List Output}
    (h : EsccEffect c s t ((s.chan c).received q) (rrReceived s c) out) (x : Chan) (n : Fin 16) :
    rrReceived t c x n = rrReceived s c x n := by
  have hhigh : (t.chan c).statusHigh = (s.chan c).statusHigh := by
    rw [h.own]
    rfl
  have h0 : (t.chan c).rr[0] = (s.chan c).rr[0] ||| 0x01 :=
    (h.registers c 0).trans (by simp [rrReceived, rrAfter])
  have h1 : (t.chan c).rr[1] = (s.chan c).rr[1] :=
    (h.registers c 1).trans (by simp [rrReceived, rrAfter])
  have h3 : t.chA.rr[3] = s.chA.rr[3] ||| rxPendingBit c :=
    (h.registers .A 3).trans (by simp [rrReceived, rrAfter])
  have hx : (t.chan x).rr[n] = rrReceived s c x n := h.registers x n
  unfold rrReceived rrAfter at hx ⊢
  rw [hhigh, h0, h1, h3, BitVec.or_assoc, BitVec.or_self, BitVec.or_assoc, BitVec.or_self, hx]
  split_ifs <;> rfl

/-- Two receive conditions on one channel are one, with the later queue. -/
theorem EsccEffect.received_trans {c : Chan} {s t u : State} {q q' : ByteQueue Config.esccQcap}
    (h : EsccEffect c s t ((s.chan c).received q) (rrReceived s c) [])
    (h' : EsccEffect c t u ((t.chan c).received q') (rrReceived t c) []) :
    EsccEffect c s u ((s.chan c).received q') (rrReceived s c) [] where
  own := by
    rw [h'.own, h.own]
    rfl
  sibling := by
    rw [h'.sibling, h.sibling]
  registers x n := (h'.registers x n).trans (rrReceived_of_received h x n)
  rest := by
    rw [h'.rest, h.rest]
    simp

/-- A full queue drops every byte (R144 (a)). -/
theorem pushChanAll_of_full {c : Chan} {s : State} (hf : (s.chan c).q.isFull = true) (bs : List Byte) :
    pushChanAll c bs s = s := by
  induction bs with
  | nil => rfl
  | cons b bs ih =>
    have hpush : pushChan c b s = s := by simp [pushChan, hf]
    rw [pushChanAll, hpush, ih]

/-- Pushing nothing, or pushing on a full queue, is no effect (R140). -/
theorem EsccQueues.refl {c : Chan} {s : State} {bs : List Byte} (hq : (s.chan c).q.wf = true)
    (h : bs = [] ∨ (s.chan c).q.isFull = true) : EsccQueues c s s (s.chan c) bs := by
  rcases h with rfl | hf
  · refine ⟨by rw [List.append_nil, List.take_of_length_le (ByteQueue.length_contents_le hq)], ?_⟩
    rw [if_neg (fun hc => hc.1 rfl)]
    exact (modChan_id s c).symm
  · have hcount := (ByteQueue.isFull_iff _).mp hf
    refine ⟨(List.take_left' ((ByteQueue.length_contents _).trans hcount)).symm, ?_⟩
    rw [if_neg (fun hc => hc.2.ne hcount)]
    exact (modChan_id s c).symm

/-- A byte that finds room, then any bytes. -/
theorem EsccQueues.cons {c : Chan} {s t u : State} {b : Byte} {bs : List Byte} (hq : (s.chan c).q.wf = true)
    (hf : (s.chan c).q.isFull = false)
    (h : EsccEffect c s t ((s.chan c).received ((s.chan c).q.enqueue b)) (rrReceived s c) [])
    (hrest : EsccQueues c t u (t.chan c) bs) : EsccQueues c s u (s.chan c) (b :: bs) := by
  have hne : (s.chan c).q.count ≠ Config.esccQcap := fun hc => by
    rw [(ByteQueue.isFull_iff _).mpr hc] at hf
    cases hf
  have hlt : (s.chan c).q.count < Config.esccQcap := lt_of_le_of_ne ((ByteQueue.wf_iff _).mp hq).1 hne
  have htq : (t.chan c).q = (s.chan c).q.enqueue b := by
    rw [h.own]
    rfl
  obtain ⟨hcontents, heffect⟩ := hrest
  refine ⟨?_, ?_⟩
  · rw [hcontents, htq, ByteQueue.enqueue_contents _ b hq hf, List.append_assoc, List.singleton_append]
  · rw [if_pos ⟨List.cons_ne_nil b bs, hlt⟩]
    split at heffect
    · exact h.received_trans heffect
    · have hu : u = t := heffect.trans (modChan_id t c)
      rw [hu, htq]
      exact h

/-- `push` of any bytes on a channel's queue (R140). -/
theorem pushChanAll_queues (c : Chan) (bs : List Byte) {s : State} (hq : (s.chan c).q.wf = true) :
    EsccQueues c s (pushChanAll c bs s) (s.chan c) bs := by
  induction bs generalizing s with
  | nil => exact .refl hq (.inl rfl)
  | cons b bs ih =>
    cases hf : (s.chan c).q.isFull with
    | true =>
      rw [pushChanAll_of_full hf]
      exact .refl hq (.inr hf)
    | false =>
      have hpush := pushChan_effect c b s
      rw [hf, if_neg Bool.false_ne_true] at hpush
      have hwf : ((pushChan c b s).chan c).q.wf = true := by
        rw [hpush.own]
        exact ByteQueue.enqueue_wf _ b hq hf
      exact .cons hq hf hpush (ih hwf)

/-- Settles O37: each queue by induction on the bytes pushed, from what one push does to it. -/
theorem pushesFillQueues : Obligations.PushesFillQueues := fun bs _ =>
  ⟨pushKbdAll_replies bs, pushMouseAll_replies bs, fun c => pushChanAll_queues c bs⟩

end Sys2Proof.Machine
end

section
/-! PROOFS. The ESCC control port (spec/41_escc_control_port.md): the pointer commands and the two that retire or
acknowledge an interrupt (R152 to R156), the register writes (R157 to R172, R175), the reset codes (R165, R176) and
the reads (R173). One effect per shared operation, then one row of each table after the other. -/

namespace Sys2Proof.Machine

/-! ## The decode state of a channel -/

theorem protocol_chan (s : State) (c : Chan) : s.protocol.chan c = (s.chan c).phase := by
  cases c <;> rfl

theorem decode_ctrlWrite (s : State) (c : Chan) (v : Byte) :
    decode s.protocol (writeOp s.params.itShift (.ctrl c) v) = .instr (decodeCtrlWrite c (s.chan c).phase v) :=
  protocol_chan s c ▸ decode_writeOp s.protocol (.ctrl c) v

theorem decode_ctrlRead (s : State) (c : Chan) :
    decode s.protocol (readOp s.params.itShift (.ctrl c)) = .instr (decodeCtrlRead c (s.chan c).phase) :=
  protocol_chan s c ▸ decode_readOp s.protocol (.ctrl c)

/-! ## The pointer (R151, R153, R156) -/

theorem lowPointer_toNat (ptr : BitVec 3) : (lowPointer ptr).toNat = ptr.toNat :=
  BitVec.toNat_setWidth_of_le (by decide)

/-- Point high sets a bit the pointer field does not reach. -/
theorem highPointer_toNat (ptr : BitVec 3) : (highPointer ptr).toNat = ptr.toNat + 8 := by
  calc (highPointer ptr).toNat
    _ = (lowPointer ptr).toNat ||| (8#4).toNat := BitVec.toNat_or _ _
    _ = 2 ^ 3 * 1 ||| ptr.toNat := by rw [lowPointer_toNat, Nat.or_comm]; rfl
    _ = 2 ^ 3 * 1 + ptr.toNat := (Nat.two_pow_add_eq_or_of_lt ptr.isLt 1).symm
    _ = ptr.toNat + 8 := by omega

/-- The pointer is latched after a command's effect (R156). -/
theorem EsccEffect.latchPointer {c : Chan} {s t : State} {ch : Channel} {rr : Chan → Fin 16 → Byte}
    {out : List Output} (n : BitVec 4) (h : EsccEffect c s t ch rr out) :
    EsccEffect c s (latchPointer c n t) { ch with sel := n } rr out :=
  h.modChan (fun ch => { ch with sel := n }) fun _ _ => rfl

theorem latchPointer_chan_sel (c : Chan) (n : BitVec 4) (s : State) : ((latchPointer c n s).chan c).sel = n := by
  rw [latchPointer, modChan_chan_same]

/-- An instruction that only latches the pointer, as the statements say it. -/
theorem latches_of_exec {i : Instr} {c : Chan} {n : BitVec 4} {k : Nat} {s : State} (hn : n.toNat = k)
    (h : exec i s = .next (latchPointer c n s)) :
    ∃ t, exec i s = .next t ∧ (t.chan c).sel.toNat = k ∧
      EsccEffect c s t { s.chan c with sel := (t.chan c).sel } s.rrOf [] := by
  refine ⟨_, h, ?_, ?_⟩
  · rw [latchPointer_chan_sel, hn]
  · rw [latchPointer_chan_sel]
    exact latchPointer_effect c n s

/-! ## Register writes (R157 to R172) -/

/-- The announcement of the line parameters of the write registers `wr` (42 R195). -/
def announced (s : State) (c : Chan) (wr : Vector Byte 16) : List Output :=
  if (s.chan c).role = .serial then [.parametersChanged c (deriveLineParameters s.params.clockHz wr)] else []

/-- The read registers after a write of `v` to register `k` of channel `c`, which is mirrored or not (10 R47). -/
def rrStored (s : State) (c : Chan) (k : Fin 16) (v : Byte) (mirrored : Bool) (y : Chan) (n : Fin 16) : Byte :=
  if mirrored = true ∧ y = c ∧ n = k then v else s.rrOf y n

section Writes

variable (c : Chan) (k : Fin 16) (v : Byte) (s : State)

theorem rrStored_false (y : Chan) (n : Fin 16) : rrStored s c k v false y n = s.rrOf y n :=
  if_neg fun h => Bool.false_ne_true h.1

/-- WR4 and WR5: the line parameters are derived after the store (R160, R161). -/
theorem storeWR_announced_effect :
    EsccEffect c s (updateParameters c (storeWR c k v s))
      { s.chan c with wr := (s.chan c).wr.set k v, sel := 0 } (rrStored s c k v false)
      (announced s c ((s.chan c).wr.set k v)) :=
  (storeWR_effect c k v s).updateParameters.congr rfl fun y n => (rrStored_false c k v s y n).symm

/-- WR12 and WR13: stored, mirrored, and the line parameters derived (R168, R169). -/
theorem storeWR_mirrored_effect :
    EsccEffect c s (updateParameters c ((storeWR c k v s).modChan c (·.setRR k v)))
      { s.chan c with wr := (s.chan c).wr.set k v, sel := 0 } (rrStored s c k v true)
      (announced s c ((s.chan c).wr.set k v)) :=
  ((storeWR_effect c k v s).setRR k v).updateParameters.congr rfl fun y n => by simp [rrStored]

end Writes

/-- An instruction that stores a register and does nothing else, as the statements say it. -/
theorem stores_of_exec {i : Instr} {c : Chan} {k : Fin 16} {v : Byte} {s : State}
    (h : exec i s = .next (storeWR c k v s)) :
    ∃ t, exec i s = .next t ∧
      EsccEffect c s t { s.chan c with wr := (s.chan c).wr.set k v, sel := 0 } s.rrOf [] :=
  ⟨_, h, storeWR_effect c k v s⟩

/-! ### The line after a register write (60 R343, R344) -/

theorem irqLine_eq (s : State) (c : Chan) : s.irqLine = ((s.chan c).wants || (s.chan c.sib).wants) := by
  cases c
  · rfl
  · exact Bool.or_comm _ _

/-- The receive mode field as a number (10 R32). -/
theorem rxIntEnabled_iff (ch : Channel) :
    ch.rxIntEnabled = true ↔ ch.wr[1].toNat / 8 % 4 = 1 ∨ ch.wr[1].toNat / 8 % 4 = 2 := by
  have hfield : (ch.wr[1].extractLsb' 3 2).toNat = ch.wr[1].toNat / 8 % 4 := by
    rw [BitVec.extractLsb'_toNat, Nat.shiftRight_eq_div_pow]
  simp only [Channel.rxIntEnabled, Bool.or_eq_true, beq_iff_eq, ← BitVec.toNat_inj, hfield]
  rfl

theorem wants_iff (ch : Channel) :
    ch.wants = true ↔
      (ch.wr[1][1] = true ∧ ch.txPending = true) ∨
      ((ch.wr[1].toNat / 8 % 4 = 1 ∨ ch.wr[1].toNat / 8 % 4 = 2) ∧ ch.rxPending = true) ∨
      (ch.wr[15][7] = true ∧ ch.rr[0][7] = true) := by
  simp only [Channel.wants, Channel.txIntEnabled, Channel.brkIntEnabled, Bool.or_eq_true, Bool.and_eq_true,
    rxIntEnabled_iff, or_assoc]

theorem storeWR_irqLine_iff (c : Chan) (k : Fin 16) (v : Byte) (s : State) :
    (storeWR c k v s).irqLine = true ↔
      ((s.chan c).setWR k v).wants = true ∨ (s.chan c.sib).wants = true := by
  rw [irqLine_eq _ c, storeWR, modChan_chan_same, modChan_chan_sib, Bool.or_eq_true]
  rfl

/-! ### A register write by its pointer (R172, R175) -/

/-- `WR9_STORE` stores the byte written (R165). -/
theorem wr9Value_of_no_reset_code {v : Byte} (h : v &&& 0xC0 = 0) : wr9Value (v.extractLsb' 0 6) = v := by
  have hlow : wr9Value (v.extractLsb' 0 6) = v &&& 0x3F := by
    ext i hi
    interval_cases i <;> simp [wr9Value]
  calc wr9Value (v.extractLsb' 0 6)
    _ = (v &&& 0x3F) ||| (v &&& 0xC0) := by
      rw [hlow, h]
      exact BitVec.or_zero.symm
    _ = v &&& (0x3F ||| 0xC0) := BitVec.and_or_distrib_left.symm
    _ = v := BitVec.and_allOnes

theorem decodeWr9_of_no_reset_code (c : Chan) {v : Byte} (h : v &&& 0xC0 = 0) :
    decodeWr9 c v = .wr9Store c (v.extractLsb' 0 6) :=
  if_pos h

/-- The store of a latched write: register `k`, or its mirror, and nothing else in the two channels. -/
def StoresRegister (c : Chan) (k : Fin 16) (v : Byte) (s : State) (r : Result) : Prop :=
  ∃ t mirrored out, r = .next t ∧ (mirrored = true → k = 12 ∨ k = 13) ∧
    EsccEffect c s t { s.chan c with wr := (s.chan c).wr.set k v, sel := 0 } (rrStored s c k v mirrored) out

section Rows

variable (c : Chan) (k : Fin 16) (v : Byte) (s : State)

theorem storesRegister_plain : StoresRegister c k v s (.next (storeWR c k v s)) :=
  ⟨_, false, _, rfl, nofun, (storeWR_effect c k v s).congr rfl fun y n => (rrStored_false c k v s y n).symm⟩

theorem storesRegister_announced : StoresRegister c k v s (.next (updateParameters c (storeWR c k v s))) :=
  ⟨_, false, _, rfl, nofun, storeWR_announced_effect c k v s⟩

theorem storesRegister_mirrored (hk : k = 12 ∨ k = 13) :
    StoresRegister c k v s (.next (updateParameters c ((storeWR c k v s).modChan c (·.setRR k v)))) :=
  ⟨_, true, _, rfl, fun _ => hk, storeWR_mirrored_effect c k v s⟩

theorem storesRegister_wr9 (h : v &&& 0xC0 = 0) : StoresRegister c 9 v s (exec (decodeWr9 c v) s) := by
  have hexec : exec (decodeWr9 c v) s = .next (storeWR c 9 (wr9Value (v.extractLsb' 0 6)) s) := by
    rw [decodeWr9_of_no_reset_code c h]
    rfl
  rw [hexec, wr9Value_of_no_reset_code h]
  exact storesRegister_plain c 9 v s

/-- Every register write but a reset code, row by row. -/
theorem exec_decodeRegister_stores {n : BitVec 4} (h0 : n ≠ 0) (h9 : n = 9 → v &&& 0xC0 = 0) :
    StoresRegister c n.toFin v s (exec (decodeRegister c n v) s) := by
  obtain ⟨m, hm, rfl⟩ := exists_ofNat_eq n
  interval_cases m
  · exact absurd rfl h0
  iterate 3 exact storesRegister_plain c _ v s
  iterate 2 exact storesRegister_announced c _ v s
  iterate 3 exact storesRegister_plain c _ v s
  · exact storesRegister_wr9 c v s (h9 rfl)
  iterate 2 exact storesRegister_plain c _ v s
  · exact storesRegister_mirrored c _ v s (.inl rfl)
  · exact storesRegister_mirrored c _ v s (.inr rfl)
  iterate 2 exact storesRegister_plain c _ v s

end Rows

/-- An effect that leaves the sibling's read registers leaves the sibling. -/
theorem EsccEffect.sibling_eq {c : Chan} {s t : State} {ch : Channel} {rr : Chan → Fin 16 → Byte}
    {out : List Output} (h : EsccEffect c s t ch rr out) (hrr : ∀ n, rr c.sib n = s.rrOf c.sib n) :
    t.chan c.sib = s.chan c.sib := by
  have hbank : (t.chan c.sib).rr = (s.chan c.sib).rr :=
    Vector.ext fun n hn => (h.registers c.sib ⟨n, hn⟩).trans (hrr ⟨n, hn⟩)
  rw [h.sibling, hbank]

theorem rrStored_sib (s : State) (c : Chan) (k : Fin 16) (v : Byte) (mirrored : Bool) (n : Fin 16) :
    rrStored s c k v mirrored c.sib n = s.rrOf c.sib n :=
  if_neg fun ⟨_, hsib, _⟩ => sib_ne c hsib

/-! ## Reads (R173) -/

theorem readRR_effect (c : Chan) (n : Fin 16) (s : State) :
    EsccEffect c s (readRR c n s) { s.chan c with sel := 0 } s.rrOf [.returned (.ctrl c) (s.rrOf c n)] :=
  (latchPointer_effect c 0 s).emit _

theorem exec_decodeCtrlRead (c : Chan) (x : ChanPhase) (s : State) :
    exec (decodeCtrlRead c x) s = .next (readRR c x.sel.toFin s) := by
  obtain ⟨sel, role, tx, latch⟩ := x
  obtain ⟨m, hm, rfl⟩ := exists_ofNat_eq sel
  interval_cases m <;> rfl

/-- An effect does not rest on the operations that wait behind it. -/
theorem EsccEffect.with_inputs {c : Chan} {s t : State} {ch : Channel} {rr : Chan → Fin 16 → Byte}
    {out : List Output} (h : EsccEffect c s t ch rr out) (rest : List Op) :
    EsccEffect c { s with inputs := rest } { t with inputs := rest } ch rr out :=
  ⟨h.own, h.sibling, h.registers, by rw [h.rest]⟩

/-! ## The statements -/

/-- Settles O11: ClearTx, then the pointer. -/
theorem clearTransmitInterrupt : Obligations.ClearTransmitInterrupt := fun c _ ptr s =>
  ⟨_, rfl, (clearTx_effect c s).latchPointer (lowPointer ptr)⟩

/-- Settles O12: ClearIUS, then the pointer. -/
theorem clearUnderService : Obligations.ClearUnderService := fun c _ ptr s =>
  ⟨_, rfl, (clearIUS_effect c s).latchPointer (lowPointer ptr)⟩

/-- Settles O15: both are plain stores, and the line is what the stored register makes of the old flags. -/
theorem interruptEnableWrites : Obligations.InterruptEnableWrites := by
  intro c v s
  refine ⟨⟨_, rfl, storeWR_effect c 1 v s, ?_⟩, ⟨_, rfl, storeWR_effect c 15 v s, ?_⟩⟩
  · rw [storeWR_irqLine_iff, wants_iff, or_assoc, or_assoc]
    simp
  · rw [storeWR_irqLine_iff, wants_iff, or_assoc, or_assoc]
    simp

/-- Settles O16: two stores without a mirror, two with one. -/
theorem lineParameterWrites : Obligations.LineParameterWrites := by
  intro c v s
  iterate 4 rw [List.forall_mem_cons]
  exact ⟨⟨_, rfl, storeWR_announced_effect c 4 v s⟩, ⟨_, rfl, storeWR_announced_effect c 5 v s⟩,
    ⟨_, rfl, storeWR_mirrored_effect c 12 v s⟩, ⟨_, rfl, storeWR_mirrored_effect c 13 v s⟩, nofun⟩

/-- Settles O19: each code is one or two channel resets; the writer's pointer stands in the other channel. -/
theorem resetCodes : Obligations.ResetCodes := by
  intro c low s
  refine ⟨⟨_, rfl, resetChannel_effect .B s, ?_⟩, ⟨_, rfl, resetChannel_effect .A s, ?_⟩,
    ⟨_, _, rfl, resetChannel_effect .A s, resetChannel_effect .B _⟩⟩
  · rintro rfl
    rfl
  · rintro rfl
    rfl

/-- Settles O21: the read decodes to the row of `sel`, and its effect does not rest on what waits behind it. -/
theorem controlRead : Obligations.ControlRead := by
  intro s c rest hinputs
  have hstep := stepRunsDecodedInstruction s _ rest _ hinputs (decode_ctrlRead s c)
  rw [exec_decodeCtrlRead] at hstep
  exact ⟨_, hstep, (readRR_effect c (s.chan c).sel.toFin s).with_inputs rest⟩

/-- Settles O22: the write decodes to the row of `sel`, and every row but a reset code stores. -/
theorem latchedWriteStoresOnce : Obligations.LatchedWriteStoresOnce := by
  intro s c v hsel hcode
  have h9 : (s.chan c).sel = 9 → v &&& 0xC0 = 0 := fun h => by_contra fun hne => hcode ⟨h, hne⟩
  have hdecode : decode s.protocol (writeOp s.params.itShift (.ctrl c) v) =
      .instr (decodeRegister c (s.chan c).sel v) := (decode_ctrlWrite s c v).trans (congrArg _ (if_neg hsel))
  obtain ⟨t, mirrored, out, hexec, hmirror, h⟩ := exec_decodeRegister_stores c v s hsel h9
  refine ⟨_, t, hdecode, hexec, h.sibling_eq (rrStored_sib s c _ v mirrored), h.own, fun n h12 h13 => ?_⟩
  refine (h.registers c n).trans (if_neg ?_)
  rintro ⟨hm, -, rfl⟩
  exact (hmirror hm).elim h12 h13

/-- Settles O10: six commands, one latch each. -/
theorem pointerCommands : Obligations.PointerCommands := by
  intro c ign ptr s
  refine ⟨fun i hi => ?_, latches_of_exec (highPointer_toNat ptr) rfl⟩
  have hexec : exec i s = .next (latchPointer c (lowPointer ptr) s) := by
    fin_cases hi <;> rfl
  exact latches_of_exec (lowPointer_toNat ptr) hexec

/-- Settles O13: six plain stores. -/
theorem storeOnlyWrites : Obligations.StoreOnlyWrites := by
  intro c v s x hx
  have hexec : exec x.1 s = .next (storeWR c x.2 v s) := by
    fin_cases hx <;> rfl
  exact stores_of_exec hexec

/-- Settles O14: three plain stores, of WR9 the low six bits under zeros. -/
theorem otherStores : Obligations.OtherStores := by
  intro c v low s x hx
  have hlow : BitVec.ofNat 8 low.toNat = wr9Value low := BitVec.ofNat_toNat 8 low
  rw [hlow] at hx
  have hexec : exec x.1 s = .next (storeWR c x.2.1 x.2.2 s) := by
    fin_cases hx <;> rfl
  exact stores_of_exec hexec

/-- Settles O20: sixteen reads, one register each. -/
theorem readRegisters : Obligations.ReadRegisters := by
  intro c s x hx
  have hexec : exec x.1 s = .next (readRR c x.2 s) := by
    fin_cases hx <;> rfl
  exact ⟨_, hexec, readRR_effect c x.2 s⟩

end Sys2Proof.Machine
end

section
/-! PROOFS. The line parameters a serial channel announces (spec/42_escc_line_parameters.md R191 to R194; 30 R120):
each bit or two-bit field the model reads of a write register as a number of the register's byte, then one lemma per
derived quantity. -/

namespace Sys2Proof.Machine

/-! ## The fields of a register byte -/

theorem getElem_eq_true_iff (v : Byte) (k : Nat) (hk : k < 8) : v[k] = true ↔ v.toNat / 2 ^ k % 2 = 1 := by
  rw [← BitVec.getLsbD_eq_getElem, BitVec.getLsbD, Nat.testBit_eq_decide_div_mod_eq, decide_eq_true_iff]

theorem twoBitField_eq_iff (v : Byte) (k : Nat) (f : BitVec 2) :
    v.extractLsb' k 2 = f ↔ v.toNat / 2 ^ k % 4 = f.toNat := by
  rw [← BitVec.toNat_inj, BitVec.extractLsb'_toNat, Nat.shiftRight_eq_div_pow]

/-! ## Parity, stop bits and data bits (R191 to R193) -/

theorem deriveParity_eq (wr4 : Byte) :
    deriveParity wr4 = if wr4.toNat % 2 = 0 then .none else if wr4.toNat / 2 % 2 = 1 then .even else .odd := by
  have henable : wr4[0] = true ↔ ¬ wr4.toNat % 2 = 0 := by
    rw [getElem_eq_true_iff]
    omega
  have heven : wr4[1] = true ↔ wr4.toNat / 2 % 2 = 1 := getElem_eq_true_iff wr4 1 (by decide)
  simp only [deriveParity, henable, heven, ite_not]

theorem deriveStopBits_eq (wr4 : Byte) : deriveStopBits wr4 = if wr4.toNat / 4 % 4 = 3 then 2 else 1 := by
  simp only [deriveStopBits, twoBitField_eq_iff]
  rfl

theorem deriveDataBits_eq (wr5 : Byte) :
    deriveDataBits wr5 =
      if wr5.toNat / 32 % 4 = 0 then 5 else if wr5.toNat / 32 % 4 = 1 then 7
      else if wr5.toNat / 32 % 4 = 2 then 6 else 8 := by
  simp only [deriveDataBits, twoBitField_eq_iff]
  rfl

/-! ## The baud rate (R194) -/

/-- The multiplier field is the byte's top two bits, so nothing stands above it. -/
theorem clockMultiplier_eq (wr4 : Byte) :
    clockMultiplier wr4 =
      if wr4.toNat / 64 = 0 then 1 else if wr4.toNat / 64 = 1 then 16 else if wr4.toNat / 64 = 2 then 32 else 64 := by
  have hfield : wr4.toNat / 2 ^ 6 % 4 = wr4.toNat / 64 := by omega
  simp only [clockMultiplier, twoBitField_eq_iff, hfield]
  rfl

/-- WR12 stays below WR13's place, so the two bytes do not overlap (30 R120). -/
theorem timeConstant_eq (lo hi : Byte) : timeConstant lo hi = lo.toNat + 256 * hi.toNat := by
  calc timeConstant lo hi
    _ = hi.toNat <<< 8 ||| lo.toNat := Nat.or_comm _ _
    _ = hi.toNat <<< 8 + lo.toNat := (Nat.shiftLeft_add_eq_or_of_lt lo.isLt _).symm
    _ = lo.toNat + 256 * hi.toNat := by rw [Nat.shiftLeft_eq]; omega

/-! ## The statements -/

/-- Settles O18: the time constant and the multiplier as numbers. -/
theorem baudRate : Obligations.BaudRate := by
  intro clock wr
  simp only [deriveLineParameters, deriveBaud, timeConstant_eq, clockMultiplier_eq]

/-- Settles O17: one field after the other. -/
theorem lineFormat : Obligations.LineFormat := fun _ _ =>
  ⟨deriveParity_eq _, deriveStopBits_eq _, deriveDataBits_eq _⟩

end Sys2Proof.Machine
end

section
/-! PROOFS. The ESCC data port (spec/43_escc_data_port.md): the writes that queue nothing (R200; 44 R222, R225, R226),
the read (R201; 40 R141), the transport's callbacks and its gate (R203 to R205), and the events a channel of another
role ignores (decision D48). First how effects on a channel follow one another, then one effect per operation. -/

namespace Sys2Proof.Machine

/-! ## One effect after another -/

theorem EsccEffect.trans {c : Chan} {s t u : State} {ch ch' : Channel} {rr rr' : Chan → Fin 16 → Byte}
    {out out' : List Output} (h : EsccEffect c s t ch rr out) (h' : EsccEffect c t u ch' rr' out') :
    EsccEffect c s u ch' rr' (out ++ out') where
  own := h'.own
  sibling := by rw [h'.sibling, h.sibling]
  registers := h'.registers
  rest := by
    rw [h'.rest, h.rest]
    simp

/-- `rrAfter` reads of its state only the registers it does not name. -/
theorem rrAfter_congr {s t : State} {c : Chan}
    (h : ∀ x n, ¬(x = c.sib ∧ n = 2) → ¬(x = .A ∧ n = 3) → ¬(x = c ∧ n = 0) → ¬(x = c ∧ n = 1) →
      t.rrOf x n = s.rrOf x n)
    (r0 r1 vec pend : Byte) (x : Chan) (n : Fin 16) :
    rrAfter t c r0 r1 vec pend x n = rrAfter s c r0 r1 vec pend x n := by
  unfold rrAfter
  split_ifs with hvec hpend h0 h1
  · rfl
  · rfl
  · rfl
  · rfl
  · exact h x n hvec hpend h0 h1

/-- Of two operations on one channel, the later one's registers stand. -/
theorem rrAfter_of_rrAfter {s t : State} {c : Chan} {r0 r1 vec pend : Byte}
    (h : ∀ x n, (t.chan x).rr[n] = rrAfter s c r0 r1 vec pend x n) (r0' r1' vec' pend' : Byte) (x : Chan)
    (n : Fin 16) : rrAfter t c r0' r1' vec' pend' x n = rrAfter s c r0' r1' vec' pend' x n := by
  refine rrAfter_congr (fun y m hvec hpend h0 h1 => (h y m).trans ?_) _ _ _ _ x n
  rw [rrAfter, if_neg hvec, if_neg hpend, if_neg h0, if_neg h1]
  rfl

section Registers

variable (s : State) (c : Chan) (r0 r1 vec pend : Byte)

theorem rrAfter_status : rrAfter s c r0 r1 vec pend c 0 = r0 := by simp [rrAfter]

theorem rrAfter_special : rrAfter s c r0 r1 vec pend c 1 = r1 := by simp [rrAfter]

theorem rrAfter_pending : rrAfter s c r0 r1 vec pend .A 3 = pend := by simp [rrAfter]

end Registers

/-! ## Data-port writes that queue nothing (R200; 44 R222, R225, R226) -/

theorem rrTransmitted_congr {s t : State} {c : Chan} (hrr : ∀ x n, t.rrOf x n = s.rrOf x n)
    (hius : (t.chan c).rxIUS = (s.chan c).rxIUS) (hhigh : (t.chan c).statusHigh = (s.chan c).statusHigh) (x : Chan)
    (n : Fin 16) : rrTransmitted t c x n = rrTransmitted s c x n := by
  have hstatus : (t.chan c).rr[0] = (s.chan c).rr[0] := hrr c 0
  have hspecial : (t.chan c).rr[1] = (s.chan c).rr[1] := hrr c 1
  have hvec : (t.chan c.sib).rr[2] = (s.chan c.sib).rr[2] := hrr c.sib 2
  have hpend : t.chA.rr[3] = s.chA.rr[3] := hrr .A 3
  simp only [rrTransmitted, hius, hhigh, hstatus, hspecial, hvec, hpend]
  exact rrAfter_congr (fun y m _ _ _ _ => hrr y m) _ _ _ _ x n

theorem storeTx_effect (c : Chan) (v : Byte) (s : State) :
    EsccEffect c s (storeTx c v s) { s.chan c with tx := v } s.rrOf [] :=
  (EsccEffect.refl c s).modChan (fun ch => { ch with tx := v }) fun _ _ => rfl

/-- The transmit bookkeeping, after an effect that moved the output byte and the LED latch alone. -/
theorem EsccEffect.transmitDone {c : Chan} {s t : State} {v : Byte} {latch : Bool} {out : List Output}
    (h : EsccEffect c s t { s.chan c with tx := v, ledLatch := latch } s.rrOf out) :
    EsccEffect c s (Machine.transmitDone c t) ((s.chan c).transmitted v latch) (rrTransmitted s c) out := by
  have hius : (t.chan c).rxIUS = (s.chan c).rxIUS := by rw [h.own]
  have hwr : (t.chan c).wr = (s.chan c).wr := by rw [h.own]
  have hhigh : (t.chan c).statusHigh = (s.chan c).statusHigh := by rw [Channel.statusHigh, hwr, Channel.statusHigh]
  have hdone := h.trans (transmitDone_effect c t)
  rw [List.append_nil] at hdone
  refine hdone.congr ?_ fun x n => rrTransmitted_congr h.registers hius hhigh x n
  rw [h.own]
  rfl

/-- A data-port write whose role gives it an effect on the outputs and the LED latch alone, as the statements say
it. -/
theorem transmits_of_exec {i : Instr} {c : Chan} {v : Byte} {latch : Bool} {f : State → State} {s : State}
    {out : List Output} (hexec : exec i s = .next (dataWrite c v f s))
    (hf : EsccEffect c s (f (storeTx c v s)) { s.chan c with tx := v, ledLatch := latch } s.rrOf out) :
    ∃ t, exec i s = .next t ∧ EsccEffect c s t ((s.chan c).transmitted v latch) (rrTransmitted s c) out :=
  ⟨_, hexec, hf.transmitDone⟩

/-- The byte goes to the transport where transmit is enabled. -/
theorem storeTx_transport_effect (c : Chan) (v : Byte) (s : State) :
    EsccEffect c s
      (if ((storeTx c v s).chan c).txEnabled then (storeTx c v s).emit (.transportWrite c v) else storeTx c v s)
      { s.chan c with tx := v } s.rrOf (if (s.chan c).txEnabled = true then [.transportWrite c v] else []) := by
  have hen : ((storeTx c v s).chan c).txEnabled = (s.chan c).txEnabled := by
    rw [storeTx, modChan_chan_same]
    rfl
  rw [hen]
  split
  · exact (storeTx_effect c v s).emit _
  · exact storeTx_effect c v s

theorem storeTx_ledLatch_effect (c : Chan) (v : Byte) (latch : Bool) (s : State) :
    EsccEffect c s ((storeTx c v s).modChan c fun ch => { ch with ledLatch := latch })
      { s.chan c with tx := v, ledLatch := latch } s.rrOf [] :=
  (storeTx_effect c v s).modChan (fun ch => { ch with ledLatch := latch }) fun _ _ => rfl

/-! ## The data-port read (R201) -/

/-- The part of a data-port read common to every role (R201): rx-available is cleared, then ClearRx run. -/
def retireReceive (c : Chan) (s : State) : State := clearRx c (s.modChan c (·.clearStatus statusRxav))

theorem retireReceive_effect (c : Chan) (s : State) :
    EsccEffect c s (retireReceive c s) ((s.chan c).drained (s.chan c).q) (rrDrained s c) [] := by
  refine ((clearRx_effect c _).after_modChan).congr ?_ fun x n => ?_
  · simp [Channel.drained, Channel.clearStatus, Channel.setRR]
  · unfold rrDrained
    rw [rrAfter_modChan]
    · cases c <;> simp [State.modChan, State.setChan, State.chan, Channel.clearStatus, Channel.setRR,
        Channel.statusHigh, statusRxav] <;> rfl
    · intro m h0 _
      simp only [Channel.clearStatus, Channel.setRR, bank_get, h0, if_false]

theorem retireReceive_q (c : Chan) (s : State) : ((retireReceive c s).chan c).q = (s.chan c).q := by
  rw [(retireReceive_effect c s).own]
  rfl

theorem execDr_of_serial {c : Chan} {s : State} (h : (s.chan c).role = .serial) :
    execDr c s = .next ((retireReceive c s).emit (.returned (.data c) (s.chan c).rx)) := by
  have hrx : ((retireReceive c s).chan c).rx = (s.chan c).rx := by
    rw [(retireReceive_effect c s).own]
    rfl
  rw [← hrx]
  simp only [execDr, h]
  rfl

theorem execDr_of_queue {c : Chan} {s : State} (h : (s.chan c).role ≠ .serial) :
    execDr c s =
      .next ((popChan c (retireReceive c s)).emit (.returned (.data c) (popChanValue c (retireReceive c s)))) := by
  unfold execDr
  dsimp only
  split
  · next hr => exact absurd hr h
  · rfl
  · rfl

/-! ### What `pop` takes (40 R141) -/

/-- A queue that holds `b` before `bs`: its head is `b`, and `bs` remain. -/
theorem ByteQueue.pop_of_contents {C : Nat} [NeZero C] {q : ByteQueue C} {b : Byte} {bs : List Byte}
    (h : q.contents = b :: bs) : q.count = bs.length + 1 ∧ q.front = b ∧ q.dequeue.contents = bs := by
  have hcount : q.count = bs.length + 1 := by rw [← q.length_contents, h, List.length_cons]
  have hcons := q.contents_eq_cons (by omega)
  rw [h] at hcons
  obtain ⟨hb, hbs⟩ := List.cons.inj hcons
  exact ⟨hcount, hb.symm, hbs.symm⟩

section Pop

variable {c : Chan} {s : State}

theorem popChan_of_nil (h : (s.chan c).q.contents = []) : popChan c s = s :=
  if_pos ((ByteQueue.contents_eq_nil _).mp h)

theorem popChanValue_of_nil (h : (s.chan c).q.contents = []) : popChanValue c s = 0x00 :=
  if_pos ((ByteQueue.contents_eq_nil _).mp h)

theorem popChanValue_of_cons {b : Byte} {bs : List Byte} (h : (s.chan c).q.contents = b :: bs) :
    popChanValue c s = b := by
  obtain ⟨hcount, hfront, -⟩ := ByteQueue.pop_of_contents h
  rw [popChanValue, if_neg (by omega), hfront]

/-- The last byte is taken without a data-available effect. -/
theorem popChan_effect_of_singleton {b : Byte} (h : (s.chan c).q.contents = [b]) :
    EsccEffect c s (popChan c s) { s.chan c with q := (s.chan c).q.dequeue } s.rrOf [] := by
  have hcount : (s.chan c).q.count = 1 := (ByteQueue.pop_of_contents h).1
  have hpop := popChan_effect c s
  rwa [if_neg (by omega), if_pos hcount] at hpop

/-- Where bytes remain, they are available again. -/
theorem popChan_effect_of_cons_cons {b b' : Byte} {bs : List Byte} (h : (s.chan c).q.contents = b :: b' :: bs) :
    EsccEffect c s (popChan c s) ((s.chan c).received (s.chan c).q.dequeue) (rrReceived s c) [] := by
  have hcount : (s.chan c).q.count = bs.length + 2 := (ByteQueue.pop_of_contents h).1
  have hpop := popChan_effect c s
  rwa [if_neg (by omega), if_neg (by omega)] at hpop

end Pop

/-! ### A read that leaves bytes queued (corner case (c)) -/

theorem or_of_cleared (v b : Byte) : v &&& ~~~b ||| b = v ||| b := by
  ext i hi
  simp [Bool.or_and_distrib_right]

/-- The bit of receive does not overlap transmit's, so ClearRx and SetRx leave what SetRx alone would. -/
theorem pending_of_reread (v : Byte) (tx : Bool) (c : Chan) :
    (if tx then v &&& ~~~(rxPendingBit c) ||| txPendingBit c else v &&& ~~~(rxPendingBit c)) ||| rxPendingBit c =
      if tx then v ||| txPendingBit c ||| rxPendingBit c else v ||| rxPendingBit c := by
  cases tx with
  | false => exact or_of_cleared v (rxPendingBit c)
  | true =>
    simp only [if_true]
    rw [BitVec.or_assoc, BitVec.or_comm (txPendingBit c), ← BitVec.or_assoc, or_of_cleared, BitVec.or_assoc,
      BitVec.or_comm (rxPendingBit c), ← BitVec.or_assoc]

theorem rrReceived_of_drained {c : Chan} {s t : State} {q : ByteQueue Config.esccQcap}
    (h : EsccEffect c s t ((s.chan c).drained q) (rrDrained s c) []) (x : Chan) (n : Fin 16) :
    rrReceived t c x n = rrReread s c x n := by
  have hhigh : (t.chan c).statusHigh = (s.chan c).statusHigh := by
    rw [h.own]
    rfl
  have hstatus : (t.chan c).rr[0] = (s.chan c).rr[0] &&& ~~~0x01 :=
    (h.registers c 0).trans (rrAfter_status ..)
  have hspecial : (t.chan c).rr[1] = (s.chan c).rr[1] := (h.registers c 1).trans (rrAfter_special ..)
  have hpend := (h.registers .A 3).trans (rrAfter_pending ..)
  simp only [rrReceived, rrReread]
  rw [hhigh, hstatus, hspecial, or_of_cleared, ← pending_of_reread, ← hpend]
  exact rrAfter_of_rrAfter h.registers ..

/-! ## The transport's callbacks and its gate (R203 to R205) -/

/-- A received byte is a data-available effect behind the new input byte (R203). -/
theorem exec_receive_of_serial {c : Chan} {s : State} (b : Byte) (h : (s.chan c).role = .serial) :
    exec (.receive c b) s = .next (dataAvailable c (s.modChan c fun ch => { ch with rx := b })) := by
  rw [dataAvailable, modChan_modChan]
  simp only [exec, execReceive, h]
  rfl

theorem exec_receiveBreak_of_serial {c : Chan} {s : State} (h : (s.chan c).role = .serial) :
    exec (.receiveBreak c) s = .next (s.modChan c (·.setStatus statusBrk)) := by
  simp only [exec, execReceiveBreak, h]

theorem receive_effect (c : Chan) (b : Byte) (s : State) :
    EsccEffect c s (dataAvailable c (s.modChan c fun ch => { ch with rx := b }))
      { (s.chan c).received (s.chan c).q with rx := b } (rrReceived s c) [] := by
  refine ((dataAvailable_effect c _).after_modChan).congr ?_ fun x n => rrReceived_modChan rfl rfl x n
  rw [modChan_chan_same]
  rfl

/-- A break moves one register (R205). -/
theorem setStatus_effect (c : Chan) (bits : Byte) (s : State) :
    EsccEffect c s (s.modChan c (·.setStatus bits)) (s.chan c)
      (rrAfter s c ((s.chan c).rr[0] ||| bits) (s.chan c).rr[1] (s.chan c.sib).rr[2] s.chA.rr[3]) [] := by
  refine ((EsccEffect.refl c s).setRR 0 ((s.chan c).rr[0] ||| bits)).congr rfl fun x n => ?_
  by_cases h0 : x = c ∧ n = 0
  · rw [if_pos h0]
    obtain ⟨rfl, rfl⟩ := h0
    exact (rrAfter_status ..).symm
  · rw [if_neg h0, rrAfter]
    split_ifs with hvec hpend hspecial
    · obtain ⟨rfl, rfl⟩ := hvec
      rfl
    · obtain ⟨rfl, rfl⟩ := hpend
      rfl
    · obtain ⟨rfl, rfl⟩ := hspecial
      rfl
    · rfl

/-- The gate is rx-available, RR0 bit 0, negated (R204, D9). -/
theorem canReceive_eq_false_iff (ch : Channel) : ch.canReceive = false ↔ ch.rr[0].toNat % 2 = 1 := by
  have hbit : ch.rr[0][0] = true ↔ ch.rr[0].toNat / 2 ^ 0 % 2 = 1 := getElem_eq_true_iff _ 0 (by decide)
  rw [Channel.canReceive, Bool.not_eq_false', hbit, Nat.pow_zero, Nat.div_one]

theorem canReceive_of_received {c : Chan} {s t : State} {ch : Channel} {out : List Output}
    (h : EsccEffect c s t ch (rrReceived s c) out) : (t.chan c).canReceive = false := by
  have hstatus : (t.chan c).rr[0] = (s.chan c).rr[0] ||| 0x01 := (h.registers c 0).trans (rrAfter_status ..)
  rw [Channel.canReceive, hstatus]
  simp

theorem canReceive_of_drained {c : Chan} {s t : State} {ch : Channel} {out : List Output}
    (h : EsccEffect c s t ch (rrDrained s c) out) : (t.chan c).canReceive = true := by
  have hstatus : (t.chan c).rr[0] = (s.chan c).rr[0] &&& 0xFE := (h.registers c 0).trans (rrAfter_status ..)
  rw [Channel.canReceive, hstatus]
  simp

/-! ## Events on a channel of another role (decision D48) -/

section WrongRole

variable {c : Chan} {s : State}

theorem exec_receive_of_not_serial (b : Byte) (h : (s.chan c).role ≠ .serial) : exec (.receive c b) s = .next s := by
  cases hr : (s.chan c).role with
  | serial => exact absurd hr h
  | keyboard => simp only [exec, execReceive, hr]
  | mouse => simp only [exec, execReceive, hr]

theorem exec_receiveBreak_of_not_serial (h : (s.chan c).role ≠ .serial) : exec (.receiveBreak c) s = .next s := by
  cases hr : (s.chan c).role with
  | serial => exact absurd hr h
  | keyboard => simp only [exec, execReceiveBreak, hr]
  | mouse => simp only [exec, execReceiveBreak, hr]

theorem exec_keyEvent_of_not_keyboard (q : Qcode) (down : Bool) (h : (s.chan c).role ≠ .keyboard) :
    exec (.keyEvent c q down) s = .next s := by
  cases hr : (s.chan c).role with
  | keyboard => exact absurd hr h
  | serial => simp only [exec, execKeyEvent, hr]
  | mouse => simp only [exec, execKeyEvent, hr]

theorem exec_mouseEvent_of_not_mouse (dx dy dz : Int) (buttons : Byte) (h : (s.chan c).role ≠ .mouse) :
    exec (.mouseEvent c dx dy dz buttons) s = .next s := by
  cases hr : (s.chan c).role with
  | mouse => exact absurd hr h
  | serial => simp only [exec, execMouseEvent, hr]
  | keyboard => simp only [exec, execMouseEvent, hr]

end WrongRole

/-! ## The statements -/

/-- Settles O24: the transmit bookkeeping, after what the transport is given. -/
theorem dataWriteSerial : Obligations.DataWriteSerial := fun c v s =>
  transmits_of_exec rfl (storeTx_transport_effect c v s)

/-- Settles O25: three writes leave the LED latch, one sets it, one clears it. -/
theorem dataWriteSilent : Obligations.DataWriteSilent := by
  intro c v s
  dsimp only
  iterate 5 rw [List.forall_mem_cons]
  have hkept := storeTx_effect c v s
  exact ⟨transmits_of_exec rfl hkept, transmits_of_exec rfl hkept, transmits_of_exec rfl hkept,
    transmits_of_exec rfl (storeTx_ledLatch_effect c 0x0E true s),
    transmits_of_exec rfl (storeTx_ledLatch_effect c v false s), nofun⟩

/-- Settles O27: the role, then what the queue holds. -/
theorem dataRead : Obligations.DataRead := by
  intro c s
  have hretire := retireReceive_effect c s
  have hq := retireReceive_q c s
  split
  · next hr => exact ⟨_, execDr_of_serial hr, hretire.emit _⟩
  · next hr =>
    refine ⟨_, execDr_of_queue hr, ?_⟩
    rw [emit_chan]
    split
    · next hnil =>
      rw [← hq] at hnil
      rw [popChan_of_nil hnil, popChanValue_of_nil hnil]
      exact hretire.emit _
    · next b hone =>
      rw [← hq] at hone
      obtain ⟨-, -, hrest⟩ := ByteQueue.pop_of_contents hone
      have hpop := popChan_effect_of_singleton hone
      have hpopq : ((popChan c (retireReceive c s)).chan c).q = _ := congrArg Channel.q hpop.own
      rw [popChanValue_of_cons hone, hpopq]
      refine ⟨hrest, ((hretire.trans hpop).congr ?_ hretire.registers).emit _⟩
      rw [hretire.own]
      rfl
    · next b b' bs hmore =>
      rw [← hq] at hmore
      obtain ⟨-, -, hrest⟩ := ByteQueue.pop_of_contents hmore
      have hpop := popChan_effect_of_cons_cons hmore
      have hpopq : ((popChan c (retireReceive c s)).chan c).q = _ := congrArg Channel.q hpop.own
      rw [popChanValue_of_cons hmore, hpopq]
      refine ⟨hrest, ((hretire.trans hpop).congr ?_ (rrReceived_of_drained hretire)).emit _⟩
      rw [hretire.own]
      rfl

/-- Settles O28: a data-available effect behind the new input byte, and a status bit. -/
theorem transportCallbacks : Obligations.TransportCallbacks := fun c b s hr =>
  ⟨⟨_, exec_receive_of_serial b hr, receive_effect c b s⟩,
    ⟨_, exec_receiveBreak_of_serial hr, setStatus_effect c statusBrk s⟩⟩

/-- Settles O29: event by event, over the two other roles. -/
theorem wrongRoleIgnored : Obligations.WrongRoleIgnored := fun _ b q down x y z _ =>
  ⟨fun h => ⟨exec_receive_of_not_serial b h, exec_receiveBreak_of_not_serial h⟩,
    exec_keyEvent_of_not_keyboard q down, exec_mouseEvent_of_not_mouse x y z b⟩

/-- Settles O30: a received byte sets rx-available, and its read, the role being kept, clears it. -/
theorem receiveGate : Obligations.ReceiveGate := by
  refine ⟨canReceive_eq_false_iff, fun c b s hr => ?_⟩
  have hreceive := receive_effect c b s
  have hread := execDr_of_serial ((congrArg Channel.role hreceive.own).trans hr)
  exact ⟨_, _, exec_receive_of_serial b hr, canReceive_of_received hreceive, hread,
    canReceive_of_drained ((retireReceive_effect c _).emit _)⟩

end Sys2Proof.Machine
end

section
/-! PROOFS. The Sun keyboard and mouse over a channel (spec/44_sun_keyboard_mouse.md): the keyboard's replies and
their interrupts (R221, R223, R224; 43 R200), key events (R227 to R229; 30 R115) and mouse packets (R231 to R233).
Each queues its bytes behind an update of the channel that the read registers do not see. -/

namespace Sys2Proof.Machine

/-! ## A receive condition behind an update of the channel -/

/-- An update of the channel outside its registers, before a receive condition, is part of the effect. -/
theorem EsccEffect.received_after_modChan {c : Chan} {s t : State} {f : Channel → Channel} {ch : Channel}
    {out : List Output} (hr : (f (s.chan c)).rr = (s.chan c).rr) (hw : (f (s.chan c)).wr = (s.chan c).wr)
    (h : EsccEffect c (s.modChan c f) t ch (rrReceived (s.modChan c f) c) out) :
    EsccEffect c s t ch (rrReceived s c) out :=
  h.after_modChan.congr rfl fun x n => rrReceived_modChan hr hw x n

theorem setChan_setChan (s : State) (c : Chan) (ch ch' : Channel) :
    (s.setChan c ch).setChan c ch' = s.setChan c ch' := by cases c <;> rfl

/-- Bytes queued on a channel whose registers and queue an update left alone. -/
theorem EsccQueues.after_setChan {c : Chan} {s t : State} {ch : Channel} {bytes : List Byte}
    (hr : ch.rr = (s.chan c).rr) (hw : ch.wr = (s.chan c).wr) (hq : ch.q = (s.chan c).q)
    (h : EsccQueues c (s.setChan c ch) t ch bytes) : EsccQueues c s t ch bytes := by
  obtain ⟨hcontents, heffect⟩ := h
  rw [setChan_chan_same, hq] at hcontents heffect
  refine ⟨hcontents, ?_⟩
  split_ifs at heffect ⊢
  · exact EsccEffect.received_after_modChan (f := fun _ => ch) hr hw heffect
  · rwa [setChan_setChan] at heffect

/-! ## The keyboard's replies (R221, R223, R224) -/

theorem rrAfter_vector (s : State) (c : Chan) (r0 r1 vec pend : Byte) :
    rrAfter s c r0 r1 vec pend c.sib 2 = vec := by simp [rrAfter]

/-- The queue is cleared first, so a reply that fits is queued whole. -/
theorem sunReply_effect (c : Chan) {reply : List Byte} (hne : reply ≠ [])
    (hfit : reply.length ≤ Config.esccQcap) (s : State) :
    ((sunReply c reply s).chan c).q.contents = reply ∧
      EsccEffect c s (sunReply c reply s) ((s.chan c).received ((sunReply c reply s).chan c).q)
        (rrReceived s c) [] := by
  have hclear : ((clearChan c s).chan c).q = (s.chan c).q.clear := by
    rw [clearChan, modChan_chan_same]
  have hqueues := pushChanAll_queues c reply (s := clearChan c s) (by rw [hclear, ByteQueue.clear_wf])
  obtain ⟨hcontents, heffect⟩ := hqueues
  rw [hclear, ByteQueue.clear_contents, List.nil_append, List.take_of_length_le hfit] at hcontents
  rw [if_pos ⟨hne, by rw [hclear, ByteQueue.clear_count]; decide⟩] at heffect
  refine ⟨hcontents, (EsccEffect.received_after_modChan rfl rfl heffect).congr ?_ fun _ _ => rfl⟩
  rw [clearChan, modChan_chan_same]
  rfl

/-- Receive being under service, the transmit bookkeeping moves neither the vector nor the pending register (43 R200
(b); 60 R347). -/
theorem rrTransmitted_of_received {c : Chan} {s t : State} {ch : Channel} {out : List Output}
    (h : EsccEffect c s t ch (rrReceived s c) out) (hius : (t.chan c).rxIUS = true) (x : Chan) (n : Fin 16) :
    rrTransmitted t c x n =
      rrAfter s c ((s.chan c).rr[0] ||| 0x05) ((s.chan c).rr[1] ||| 0x01) (rxVec c (s.chan c).statusHigh)
        (s.chA.rr[3] ||| rxPendingBit c) x n := by
  have hstatus : (t.chan c).rr[0] = (s.chan c).rr[0] ||| 0x01 := (h.registers c 0).trans (rrAfter_status ..)
  have hspecial : (t.chan c).rr[1] = (s.chan c).rr[1] := (h.registers c 1).trans (rrAfter_special ..)
  have hvec : (t.chan c.sib).rr[2] = rxVec c (s.chan c).statusHigh :=
    (h.registers c.sib 2).trans (rrAfter_vector ..)
  have hpend : t.chA.rr[3] = s.chA.rr[3] ||| rxPendingBit c := (h.registers .A 3).trans (rrAfter_pending ..)
  simp only [rrTransmitted, hius, if_true, hstatus, hspecial, hvec, hpend, BitVec.or_assoc]
  exact rrAfter_of_rrAfter h.registers ..

/-- A data-port write that a Sun keyboard answers, as the statement says it. -/
theorem replies_of_exec {i : Instr} {c : Chan} {v : Byte} {reply : List Byte} {s : State} (hne : reply ≠ [])
    (hfit : reply.length ≤ Config.esccQcap) (hexec : exec i s = .next (dataWrite c v (sunReply c reply) s)) :
    ∃ t, exec i s = .next t ∧ (t.chan c).q.contents = reply ∧
      EsccEffect c s t ({ s.chan c with tx := v, txPending := true }.received (t.chan c).q)
        (rrAfter s c ((s.chan c).rr[0] ||| 0x05) ((s.chan c).rr[1] ||| 0x01) (rxVec c (s.chan c).statusHigh)
          (s.chA.rr[3] ||| rxPendingBit c))
        [] := by
  refine ⟨_, hexec, ?_⟩
  obtain ⟨hcontents, hreply⟩ := sunReply_effect c hne hfit (storeTx c v s)
  unfold dataWrite
  generalize sunReply c reply (storeTx c v s) = u at hcontents hreply ⊢
  have hreceived : EsccEffect c s u _ (rrReceived s c) [] := EsccEffect.received_after_modChan rfl rfl hreply
  have hown : u.chan c = { { s.chan c with tx := v }.received (u.chan c).q with rr := (u.chan c).rr } := by
    rw [hreceived.own, storeTx, modChan_chan_same]
    rfl
  have hius : (u.chan c).rxIUS = true := by rw [hown]; rfl
  have hdone := transmitDone_effect c u
  have hq : ((transmitDone c u).chan c).q = (u.chan c).q := by rw [hdone.own]; rfl
  rw [hq]
  refine ⟨hcontents, (hreceived.trans hdone).congr ?_ (rrTransmitted_of_received hreceived hius)⟩
  rw [hown]
  simp [Channel.transmitted, Channel.received]

/-! ## Key events (R227 to R229) -/

/-- The phase of a lock key that an edge leaves it in (R228). -/
def KeyPhase.ofEdge (down : Bool) : KeyPhase := if down then .pressed else .released

/-- A lock key's edge passes exactly when it moves the phase (R228). -/
theorem filterEdge_eq (phase : KeyPhase) (down : Bool) :
    filterEdge phase down = if phase = .ofEdge down then none else some (.ofEdge down) := by
  cases phase <;> cases down <;> rfl

/-- The channel after a key's edge has passed its filter (R228, R229). -/
def Channel.afterEdge (ch : Channel) (down : Bool) : Qcode → Channel
  | .capsLock => { ch with capsPhase := .ofEdge down }
  | .numLock => { ch with numPhase := .ofEdge down }
  | .other _ => ch

/-- Only a lock key's edge is dropped, and only one that repeats the key's phase. -/
theorem passKey_eq (ch : Channel) (q : Qcode) (down : Bool) :
    ch.passKey q down =
      if (q = .capsLock ∧ ch.capsPhase = .ofEdge down) ∨ (q = .numLock ∧ ch.numPhase = .ofEdge down) then none
      else some (ch.afterEdge down q) := by
  cases q with
  | capsLock | numLock => simp [Channel.passKey, Channel.afterEdge, filterEdge_eq, apply_ite]
  | other k => simp [Channel.passKey, Channel.afterEdge]

section AfterEdge

variable (ch : Channel) (down : Bool) (q : Qcode)

@[simp] theorem afterEdge_rr : (ch.afterEdge down q).rr = ch.rr := by cases q <;> rfl
@[simp] theorem afterEdge_wr : (ch.afterEdge down q).wr = ch.wr := by cases q <;> rfl
@[simp] theorem afterEdge_q : (ch.afterEdge down q).q = ch.q := by cases q <;> rfl

end AfterEdge

section KeyEvent

variable {c : Chan} {q : Qcode} {down : Bool} {s : State} {ch : Channel}

theorem exec_keyEvent_of_dropped (hr : (s.chan c).role = .keyboard) (hpass : (s.chan c).passKey q down = none) :
    exec (.keyEvent c q down) s = .next s := by
  simp only [exec, execKeyEvent, hr, hpass]

/-- The phase moves even where the key has no keycode. -/
theorem exec_keyEvent_of_unmapped (hr : (s.chan c).role = .keyboard) (hpass : (s.chan c).passKey q down = some ch)
    (hcode : Config.sunKeycode q = none) : exec (.keyEvent c q down) s = .next (s.setChan c ch) := by
  simp only [exec, execKeyEvent, hr, hpass, hcode]

theorem exec_keyEvent_of_mapped {k : BitVec 7} (hr : (s.chan c).role = .keyboard)
    (hpass : (s.chan c).passKey q down = some ch) (hcode : Config.sunKeycode q = some k) :
    exec (.keyEvent c q down) s = .next (pushChanAll c [sunKeyByte k down] (s.setChan c ch)) := by
  simp only [exec, execKeyEvent, hr, hpass, hcode, pushChanAll]

end KeyEvent

/-- A keycode has seven bits, so the release flag is added to it (30 R115). -/
theorem sunKeyByte_toNat (k : BitVec 7) (down : Bool) :
    (sunKeyByte k down).toNat = if down then k.toNat else k.toNat + 128 := by
  have hwide : (k.zeroExtend 8).toNat = k.toNat := BitVec.toNat_setWidth_of_le (by decide)
  cases down with
  | true => exact hwide
  | false =>
    calc (k.zeroExtend 8 ||| 0x80).toNat
      _ = 2 ^ 7 * 1 ||| k.toNat := by rw [BitVec.toNat_or, hwide, Nat.or_comm]; rfl
      _ = 2 ^ 7 * 1 + k.toNat := (Nat.two_pow_add_eq_or_of_lt k.isLt 1).symm
      _ = k.toNat + 128 := Nat.add_comm ..

/-! ## Mouse packets (R231 to R233) -/

/-- Left, middle and right stand in bits 2, 1 and 0 (R233). -/
theorem sunButtonBits_eq (buttons : Byte) :
    sunButtonBits buttons =
      (if buttons[0] then (0x04 : Byte) else 0) ||| (if buttons[2] then (0x02 : Byte) else 0) |||
        (if buttons[1] then (0x01 : Byte) else 0) := by
  have hleft : buttons &&& (0x01 : Byte) = if buttons[0] then 0x01 else 0 := BitVec.and_twoPow buttons 0
  have hmiddle : buttons &&& (0x04 : Byte) = if buttons[2] then 0x04 else 0 := BitVec.and_twoPow buttons 2
  have hright : buttons &&& (0x02 : Byte) = if buttons[1] then 0x02 else 0 := BitVec.and_twoPow buttons 1
  rw [sunButtonBits, hleft, hmiddle, hright]
  split_ifs <;> rfl

/-- Each button pressed clears its bit of 0x87, so it is subtracted. -/
theorem sunPacketHead_toNat (buttons : Byte) :
    (0x87 ^^^ sunButtonBits buttons).toNat + (if buttons[0] then 4 else 0) + (if buttons[2] then 2 else 0) +
      (if buttons[1] then 1 else 0) = 0x87 := by
  rw [sunButtonBits_eq]
  split_ifs <;> rfl

/-- A motion byte is at least -127 (R232). -/
theorem byteOf_clamp127_ne (x : Int) : byteOf (clamp127 x) ≠ 0x80 := by
  intro h
  have hint : max (-127) (min 127 x) = -128 := (byteOf_clamp127_toInt x).symm.trans (congrArg BitVec.toInt h)
  omega

theorem exec_mouseEvent_of_mouse {c : Chan} {s : State} (dx dy dz : Int) (buttons : Byte)
    (hr : (s.chan c).role = .mouse) :
    exec (.mouseEvent c dx dy dz buttons) s = .next (pushChanAll c (sunMousePacket dx dy buttons) s) := by
  simp only [exec, execMouseEvent, hr]

/-! ## The statements -/

/-- Settles O26: one reset reply and two layout replies. -/
theorem sunReplies : Obligations.SunReplies := by
  intro c s
  iterate 3 rw [List.forall_mem_cons]
  dsimp only
  exact ⟨replies_of_exec nofun (by decide) rfl, replies_of_exec nofun (by decide) rfl,
    replies_of_exec nofun (by decide) rfl, nofun⟩

/-- Settles O31: the filter drops the edge or moves the phase; then the key has a keycode or none. -/
theorem keyEventQueues : Obligations.KeyEventQueues := by
  intro c q down s hr hwf
  have hpass := passKey_eq (s.chan c) q down
  by_cases hdrop : (q = .capsLock ∧ (s.chan c).capsPhase = .ofEdge down) ∨
      (q = .numLock ∧ (s.chan c).numPhase = .ofEdge down)
  · rw [if_pos hdrop] at hpass
    refine ⟨s, exec_keyEvent_of_dropped hr hpass, ?_⟩
    exact (if_pos hdrop).mpr rfl
  · rw [if_neg hdrop] at hpass
    cases hcode : Config.sunKeycode q with
    | none =>
      refine ⟨_, exec_keyEvent_of_unmapped hr hpass hcode, ?_⟩
      exact (if_neg hdrop).mpr rfl
    | some k =>
      refine ⟨_, exec_keyEvent_of_mapped hr hpass hcode, ?_⟩
      have hqueues := pushChanAll_queues c [sunKeyByte k down] (s := s.setChan c ((s.chan c).afterEdge down q))
        (by rwa [setChan_chan_same, afterEdge_q])
      rw [setChan_chan_same] at hqueues
      exact (if_neg hdrop).mpr ⟨_, sunKeyByte_toNat k down,
        hqueues.after_setChan (afterEdge_rr ..) (afterEdge_wr ..) (afterEdge_q ..)⟩

/-- Settles O32: five pushes, the first byte as a number. -/
theorem mouseEventQueues : Obligations.MouseEventQueues := fun c dx dy dz buttons _ hr hwf =>
  ⟨_, _, _, exec_mouseEvent_of_mouse dx dy dz buttons hr, pushChanAll_queues c _ hwf, rfl, rfl,
    sunPacketHead_toNat buttons⟩

/-- Settles O33: a clamped amount is read back from its byte. -/
theorem sunPacketMotion : Obligations.SunPacketMotion := fun dx dy _ =>
  ⟨_, _, _, rfl, byteOf_clamp127_toInt dx, byteOf_clamp127_toInt (-dy), byteOf_clamp127_ne dx,
    byteOf_clamp127_ne (-dy)⟩

end Sys2Proof.Machine
end

section
/-! PROOFS. The PS/2 keyboard (spec/45_ps2_keyboard.md; 70 R394): the replies to its command and argument bytes, its
full resets, the read of its queue, and a host key down to the bytes it is emitted as. -/

namespace Sys2Proof.Machine

/-! ## Replies of a keyboard that is updated outside its queue and line -/

/-- An update of the keyboard that neither reads nor writes its queue and line. -/
def Keyboard.KeepsQueue (f : Keyboard → Keyboard) : Prop :=
  ∀ (k : Keyboard) (q : ByteQueue Config.ps2Qcap) (i : Bool),
    f { k with q := q, irq := i } = { f k with q := q, irq := i }

theorem Keyboard.KeepsQueue.q_eq {f : Keyboard → Keyboard} (hf : KeepsQueue f) (k : Keyboard) : (f k).q = k.q := by
  have hq := congrArg Keyboard.q (hf k k.q k.irq)
  exact hq

/-- A command that updates the keyboard, then replies. -/
theorem KbdReplies.of_update_before {f : Keyboard → Keyboard} (hf : Keyboard.KeepsQueue f) (reply : List Byte)
    {s : State} (hs : s.kbd.Sound) : KbdReplies s (pushKbdAll reply { s with kbd := f s.kbd }) (f s.kbd) reply := by
  have hq : (f s.kbd).q.wf = true := by
    rw [hf.q_eq]
    exact hs.queue
  have hupdate : KbdEffect s { s with kbd := f s.kbd } (f s.kbd) s.kbd.q.contents [] := (KbdEffect.refl hs).after f hf
  have hpush := hupdate.pushAll reply hq
  rwa [ByteQueue.length_contents, List.nil_append] at hpush

theorem setScanEnabled_replies (on : Bool) (reply : List Byte) {s : State} (hs : s.kbd.Sound) :
    KbdReplies s (pushKbdAll reply (setScanEnabled on s)) { s.kbd with scanEnabled := on } reply :=
  .of_update_before (f := fun k => { k with scanEnabled := on }) (fun _ _ _ => rfl) reply hs

theorem setKbdCmd_replies (cmd : Option KbdArg) (reply : List Byte) {s : State} (hs : s.kbd.Sound) :
    KbdReplies s (pushKbdAll reply (setKbdCmd cmd s)) { s.kbd with writeCmd := cmd } reply :=
  .of_update_before (f := fun k => { k with writeCmd := cmd }) (fun _ _ _ => rfl) reply hs

/-- The argument awaited is forgotten after the reply (R263 to R265). -/
theorem KbdReplies.then_setKbdCmd {s t : State} {k : Keyboard} {reply : List Byte} (h : KbdReplies s t k reply)
    (cmd : Option KbdArg) : KbdReplies s (setKbdCmd cmd t) { k with writeCmd := cmd } reply :=
  KbdEffect.after (fun k => { k with writeCmd := cmd }) (fun _ _ _ => rfl) h

/-! ## Full resets (R266; 60 R357) -/

theorem kbdFullReset_effect (s : State) :
    KbdEffect s (kbdFullReset s) { s.kbd with scanEnabled := true, scancodeSet := .set2, ledstate := 0x00 } []
      [.kbdIrq false] :=
  ⟨rfl, ByteQueue.clear_contents _, rfl, rfl⟩

/-- A full reset that leaves scanning as `on` says, then a reply: the cleared queue has room for all of it. -/
theorem fullReset_reply_effect (on : Bool) {reply : List Byte} (hfit : reply.length ≤ Config.ps2Qcap) (s : State) :
    KbdEffect s (pushKbdAll reply (setScanEnabled on (kbdFullReset s)))
      { s.kbd with scanEnabled := on, scancodeSet := .set2, ledstate := 0x00 } reply
      (.kbdIrq false :: List.replicate reply.length (.kbdIrq true)) := by
  have hreset : KbdEffect s (setScanEnabled on (kbdFullReset s))
      { s.kbd with scanEnabled := on, scancodeSet := .set2, ledstate := 0x00 } [] [.kbdIrq false] :=
    (kbdFullReset_effect s).after (fun k => { k with scanEnabled := on }) fun _ _ _ => rfl
  have hpush := hreset.pushAll reply (ByteQueue.clear_wf _)
  rwa [List.nil_append, List.take_of_length_le hfit, List.length_nil, Nat.sub_zero, Nat.min_eq_left hfit,
    List.singleton_append] at hpush

/-! ## The argument of `SCANCODE` (R263) -/

theorem scanSetOfArg_getD (v : Byte) (set : ScanSet) :
    (scanSetOfArg v).getD set = if v = 1 then .set1 else if v = 2 then .set2 else if v = 3 then .set3 else set := by
  unfold scanSetOfArg
  split_ifs <;> rfl

/-- An argument other than 0 stores the set it selects, or the active one again. -/
theorem exec_kbdArgScancode_of_ne_zero {v : Byte} (hv : v ≠ 0) (s : State) :
    exec (.kbdArgScancode v) s =
      .next (setKbdCmd none (pushKbdAll [ackByte]
        { s with kbd := { s.kbd with scancodeSet := (scanSetOfArg v).getD s.kbd.scancodeSet } })) := by
  simp only [exec, execKbdArgScancode, if_neg hv]
  cases scanSetOfArg v <;> rfl

/-! ## Reading (R269) -/

theorem KbdEffect.emit {s t : State} {k : Keyboard} {bs : List Byte} {out : List Output} (h : KbdEffect s t k bs out)
    (o : Output) : KbdEffect s (t.emit o) k bs (out ++ [o]) where
  device := h.device
  queue := h.queue
  line := h.line
  rest := by
    rw [← List.append_assoc]
    exact congrArg (State.emit · o) h.rest

section Read

variable {s : State}

theorem popKbdValue_of_nil (h : s.kbd.q.contents = []) : popKbdValue s = 0x00 :=
  if_pos ((ByteQueue.contents_eq_nil _).mp h)

theorem popKbdValue_of_cons {b : Byte} {bs : List Byte} (h : s.kbd.q.contents = b :: bs) : popKbdValue s = b := by
  obtain ⟨hcount, hfront, -⟩ := ByteQueue.pop_of_contents h
  rw [popKbdValue, if_neg (by omega), hfront]

/-- An empty queue stays as it is, and the line stays low. -/
theorem lowered_popKbd_effect_of_nil (h : s.kbd.q.contents = []) :
    KbdEffect s (popKbd (setKbdIrq false s)) s.kbd [] [.kbdIrq false] := by
  have hcount : s.kbd.q.count = 0 := (ByteQueue.contents_eq_nil _).mp h
  rw [popKbd_effect, setKbdIrq_q, if_pos hcount]
  exact ⟨rfl, h, rfl, rfl⟩

/-- The last byte is taken and the line stays low. -/
theorem lowered_popKbd_effect_of_singleton {b : Byte} (h : s.kbd.q.contents = [b]) :
    KbdEffect s (popKbd (setKbdIrq false s)) s.kbd [] [.kbdIrq false] := by
  obtain ⟨hcount, -, hrest⟩ := ByteQueue.pop_of_contents h
  rw [List.length_nil] at hcount
  rw [popKbd_effect, setKbdIrq_q, if_neg (by omega), if_pos hcount]
  exact ⟨rfl, hrest, rfl, rfl⟩

/-- Where bytes remain, the line is raised again. -/
theorem lowered_popKbd_effect_of_cons_cons {b b' : Byte} {bs : List Byte} (h : s.kbd.q.contents = b :: b' :: bs) :
    KbdEffect s (popKbd (setKbdIrq false s)) s.kbd (b' :: bs) [.kbdIrq false, .kbdIrq true] := by
  obtain ⟨hcount, -, hrest⟩ := ByteQueue.pop_of_contents h
  rw [List.length_cons] at hcount
  rw [popKbd_effect, setKbdIrq_q, if_neg (by omega), if_neg (by omega)]
  refine ⟨rfl, hrest, rfl, ?_⟩
  rw [setKbdIrq_out, List.append_assoc]
  rfl

end Read

/-! ## Emission (R267, R268) -/

/-- The bytes of a keycode, its release flag and its seven bits read off it as a number. -/
theorem emitBytes_eq (translate : Bool) (set : ScanSet) (k : Byte) :
    emitBytes translate set k =
      if translate = false ∧ set ≠ .set1 ∧ k.toNat < 0xE0 then
        (if 128 ≤ k.toNat then [0xF0] else []) ++
          [if set = .set2 then Config.rawSet2 (BitVec.ofNat 7 (k.toNat % 128))
            else Config.rawSet3 (BitVec.ofNat 7 (k.toNat % 128))]
      else [k] := by
  have hrelease : k[7] = true ↔ 128 ≤ k.toNat := by
    rw [getElem_eq_true_iff k 7 (by decide)]
    omega
  have hkey : k.truncate 7 = BitVec.ofNat 7 (k.toNat % 128) := by
    apply BitVec.eq_of_toNat_eq
    simp
  by_cases hk : k.toNat < 0xE0
  · have hplain : ¬ 0xE0#8 ≤ k := fun h => Nat.not_le.mpr hk (BitVec.le_def.mp h)
    cases translate with
    | true => simp [emitBytes]
    | false =>
      cases set with
      | set1 => simp [emitBytes]
      | set2 | set3 => simp [emitBytes, hrelease, hkey, hk, hplain]
  · have hplain : 0xE0#8 ≤ k := BitVec.le_def.mpr (Nat.not_lt.mp hk)
    simp [emitBytes, hk, hplain]

/-! ## A key presented by the host (R272) -/

/-- A run may begin with a step. -/
theorem Runs.head {s t u : State} (h : Runs t u) (hstep : Machine.step s = .next t) : Runs s u := by
  induction h with
  | refl => exact .step _ _ _ (.refl s) hstep
  | step v w _ hlast ih => exact .step _ v w ih hlast

theorem pushKbdAll_append (bs bs' : List Byte) (s : State) :
    pushKbdAll (bs ++ bs') s = pushKbdAll bs' (pushKbdAll bs s) := by
  induction bs generalizing s with
  | nil => rfl
  | cons b bs ih => exact ih (pushKbd b s)

@[simp] theorem pushKbd_translate (b : Byte) (s : State) : (pushKbd b s).kbd.translate = s.kbd.translate := by
  unfold pushKbd
  split <;> rfl

@[simp] theorem pushKbd_scancodeSet (b : Byte) (s : State) : (pushKbd b s).kbd.scancodeSet = s.kbd.scancodeSet := by
  unfold pushKbd
  split <;> rfl

@[simp] theorem pushKbdAll_translate (bs : List Byte) (s : State) :
    (pushKbdAll bs s).kbd.translate = s.kbd.translate := by
  induction bs generalizing s with
  | nil => rfl
  | cons b bs ih => exact (ih (pushKbd b s)).trans (pushKbd_translate b s)

@[simp] theorem pushKbdAll_scancodeSet (bs : List Byte) (s : State) :
    (pushKbdAll bs s).kbd.scancodeSet = s.kbd.scancodeSet := by
  induction bs generalizing s with
  | nil => rfl
  | cons b bs ih => exact (ih (pushKbd b s)).trans (pushKbd_scancodeSet b s)

/-- The `KbdEmit`s presented first are served one by one: no one of them changes the mode the next is emitted in. -/
theorem runs_kbdEmits (keys : List Byte) (rest : List Op) {s : State}
    (hinputs : s.inputs = (keys.map fun k => .kbdEmit k.toNat) ++ rest) :
    Runs s (pushKbdAll (keys.flatMap (emitBytes s.kbd.translate s.kbd.scancodeSet)) { s with inputs := rest }) := by
  induction keys generalizing s with
  | nil =>
    have hs : { s with inputs := rest } = s := by rw [← List.nil_append rest, ← List.map_nil, ← hinputs]
    exact hs ▸ .refl s
  | cons k keys ih =>
    have hfirst := step_kbdEmit s k ((keys.map fun k => Op.kbdEmit k.toNat) ++ rest) hinputs
    have hothers := ih (s := { pushKbdAll (emitBytes s.kbd.translate s.kbd.scancodeSet k) s with
      inputs := (keys.map fun k => .kbdEmit k.toNat) ++ rest }) rfl
    rw [pushKbdAll_translate, pushKbdAll_scancodeSet] at hothers
    rw [List.flatMap_cons, pushKbdAll_append, pushKbdAll_with_inputs _ s rest]
    exact hothers.head hfirst

/-! ## The statements -/

/-- Settles O38: an acknowledgment behind an update of one field, or behind none. -/
theorem keyboardCommands : Obligations.KeyboardCommands := by
  intro v s hs
  iterate 6 rw [List.forall_mem_cons]
  exact ⟨⟨pushKbdAll [0xFA] s, rfl, pushKbdAll_replies _ hs⟩,
    ⟨pushKbdAll [0xFA] s, rfl, pushKbdAll_replies _ hs⟩,
    ⟨pushKbdAll [0xFA] (setScanEnabled true s), rfl, setScanEnabled_replies _ _ hs⟩,
    ⟨pushKbdAll [0xFA] (setKbdCmd (some .scancode) s), rfl, setKbdCmd_replies _ _ hs⟩,
    ⟨pushKbdAll [0xFA] (setKbdCmd (some .setLeds) s), rfl, setKbdCmd_replies _ _ hs⟩,
    ⟨pushKbdAll [0xFA] (setKbdCmd (some .setRate) s), rfl, setKbdCmd_replies _ _ hs⟩, List.forall_mem_nil _⟩

/-- Settles O39: R261's reset leaves scanning enabled, as the full reset does. -/
theorem keyboardFullResets : Obligations.KeyboardFullResets := by
  intro s
  iterate 3 rw [List.forall_mem_cons]
  exact ⟨⟨pushKbdAll [0xFA] (setScanEnabled false (kbdFullReset s)), rfl, fullReset_reply_effect _ (by decide) s⟩,
    ⟨pushKbdAll [0xFA] (setScanEnabled true (kbdFullReset s)), rfl, fullReset_reply_effect _ (by decide) s⟩,
    ⟨pushKbdAll [0xFA, 0xAA] (setScanEnabled true (kbdFullReset s)), rfl, fullReset_reply_effect _ (by decide) s⟩,
    List.forall_mem_nil _⟩

/-- Settles O40: 0 reports, and every other argument stores a set and is acknowledged. -/
theorem keyboardScancodeArgument : Obligations.KeyboardScancodeArgument := by
  intro v s hs
  by_cases hv : v = 0
  · subst hv
    exact ⟨_, rfl, (pushKbdAll_replies [scanSetReport s.kbd.scancodeSet] hs).then_setKbdCmd none⟩
  · refine ⟨_, exec_kbdArgScancode_of_ne_zero hv s, ?_⟩
    rw [if_neg hv, ← scanSetOfArg_getD]
    have hack := KbdReplies.of_update_before
      (f := fun k => { k with scancodeSet := (scanSetOfArg v).getD s.kbd.scancodeSet }) (fun _ _ _ => rfl) [ackByte] hs
    exact hack.then_setKbdCmd none

/-- Settles O41: the LED byte is stored before the acknowledgment, the rate nowhere. -/
theorem keyboardStoredArguments : Obligations.KeyboardStoredArguments := by
  intro v s hs
  iterate 2 rw [List.forall_mem_cons]
  have hleds := KbdReplies.of_update_before (f := fun k => { k with ledstate := v }) (fun _ _ _ => rfl) [ackByte] hs
  exact ⟨⟨_, rfl, hleds.then_setKbdCmd none⟩, ⟨_, rfl, (pushKbdAll_replies [ackByte] hs).then_setKbdCmd none⟩,
    List.forall_mem_nil _⟩

/-- Settles O42: no byte, one byte, or more are queued. -/
theorem keyboardRead : Obligations.KeyboardRead := by
  intro s
  refine ⟨_, rfl, ?_⟩
  match hq : s.kbd.q.contents with
  | [] =>
    rw [popKbdValue_of_nil (s := setKbdIrq false s) hq]
    exact (lowered_popKbd_effect_of_nil hq).emit _
  | [b] =>
    rw [popKbdValue_of_cons (s := setKbdIrq false s) hq]
    exact (lowered_popKbd_effect_of_singleton hq).emit _
  | b :: b' :: bs =>
    rw [popKbdValue_of_cons (s := setKbdIrq false s) hq]
    exact (lowered_popKbd_effect_of_cons_cons hq).emit _

/-- Settles O43: the emitted bytes are pushed as they are. -/
theorem keyboardEmission : Obligations.KeyboardEmission := by
  intro k s hs
  refine ⟨_, rfl, ?_⟩
  rw [← emitBytes_eq]
  exact pushKbdAll_replies _ hs

/-- Settles O44: three replies and two updates. -/
theorem keyboardIdentityAndPlatform : Obligations.KeyboardIdentityAndPlatform := by
  intro on s
  refine ⟨fun hs => ?_, rfl, _, rfl, rfl, ByteQueue.clear_contents _, rfl, rfl⟩
  iterate 3 rw [List.forall_mem_cons]
  exact ⟨⟨_, rfl, pushKbdAll_replies [0xFE] hs⟩, ⟨_, rfl, pushKbdAll_replies [0xEE] hs⟩,
    ⟨_, rfl, pushKbdAll_replies (kbdIdReply s.kbd.translate) hs⟩, List.forall_mem_nil _⟩

/-- Settles O60: the run serves the key's `KbdEmit`s, and their bytes are pushed one behind the other. -/
theorem keyboardKeyEvent : Obligations.KeyboardKeyEvent := fun q down rest s hs hinputs =>
  ⟨_, runs_kbdEmits (Config.ps2Keycodes q down) rest hinputs,
    pushKbdAll_replies _ (s := { s with inputs := rest }) hs⟩

end Sys2Proof.Machine
end

section
/-! PROOFS. The PS/2 mouse (spec/46_ps2_mouse.md R291 to R314): the replies to its command and argument bytes, the
packets of a poll and of a sync, and the read of its queue. -/

namespace Sys2Proof.Machine

/-! ## Replies of a mouse that is updated outside its queue and line -/

/-- An update of the mouse that neither reads nor writes its queue and line. -/
def Mouse.KeepsQueue (f : Mouse → Mouse) : Prop :=
  ∀ (m : Mouse) (q : ByteQueue Config.ps2Qcap) (i : Bool),
    f { m with q := q, irq := i } = { f m with q := q, irq := i }

theorem Mouse.KeepsQueue.q_eq {f : Mouse → Mouse} (hf : KeepsQueue f) (m : Mouse) : (f m).q = m.q := by
  have hq := congrArg Mouse.q (hf m m.q m.irq)
  exact hq

/-- The updated mouse, before any reply. -/
theorem MouseEffect.of_update {f : Mouse → Mouse} (hf : Mouse.KeepsQueue f) {s : State} (hs : s.mouse.Sound) :
    MouseEffect s { s with mouse := f s.mouse } (f s.mouse) s.mouse.q.contents [] :=
  (MouseEffect.refl hs).after f hf

/-- A command that updates the mouse, then replies. -/
theorem MouseReplies.of_update_before {f : Mouse → Mouse} (hf : Mouse.KeepsQueue f) (reply : List Byte)
    {s : State} (hs : s.mouse.Sound) :
    MouseReplies s (pushMouseAll reply { s with mouse := f s.mouse }) (f s.mouse) reply := by
  have hq : (f s.mouse).q.wf = true := by
    rw [hf.q_eq]
    exact hs.queue
  have hpush := (MouseEffect.of_update hf hs).pushAll reply hq
  rwa [ByteQueue.length_contents, List.nil_append] at hpush

section Acknowledged

variable {s : State} (hs : s.mouse.Sound)
include hs

theorem setMouseStatus_replies (bits : Byte) (reply : List Byte) :
    MouseReplies s (pushMouseAll reply (setMouseStatus bits s)) { s.mouse with status := s.mouse.status ||| bits }
      reply :=
  .of_update_before (f := fun m => { m with status := m.status ||| bits }) (fun _ _ _ => rfl) reply hs

theorem clearMouseStatus_replies (bits : Byte) (reply : List Byte) :
    MouseReplies s (pushMouseAll reply (clearMouseStatus bits s))
      { s.mouse with status := s.mouse.status &&& ~~~bits } reply :=
  .of_update_before (f := fun m => { m with status := m.status &&& ~~~bits }) (fun _ _ _ => rfl) reply hs

theorem setWrap_replies (on : Bool) (reply : List Byte) :
    MouseReplies s (pushMouseAll reply (setWrap on s)) { s.mouse with wrap := on } reply :=
  .of_update_before (f := fun m => { m with wrap := on }) (fun _ _ _ => rfl) reply hs

theorem setAuxCmd_replies (cmd : Option AuxArg) (reply : List Byte) :
    MouseReplies s (pushMouseAll reply (setAuxCmd cmd s)) { s.mouse with writeCmd := cmd } reply :=
  .of_update_before (f := fun m => { m with writeCmd := cmd }) (fun _ _ _ => rfl) reply hs

end Acknowledged

/-- The argument awaited is forgotten after the reply (R308, R309). -/
theorem MouseReplies.then_setAuxCmd {s t : State} {m : Mouse} {reply : List Byte} (h : MouseReplies s t m reply)
    (cmd : Option AuxArg) : MouseReplies s (setAuxCmd cmd t) { m with writeCmd := cmd } reply :=
  MouseEffect.after (fun m => { m with writeCmd := cmd }) (fun _ _ _ => rfl) h

/-! ## The detection sequence (R310) -/

/-- The table of R310, its next state and its variant each read as one chain of conditions. -/
theorem detectStep_eq (n : Fin 4) (mtype : MouseType) (v : Byte) :
    detectStep n mtype v =
      (if n = 0 ∧ v = 200 then 1 else if n = 1 ∧ v = 100 then 2 else if n = 1 ∧ v = 200 then 3 else 0,
        if n = 2 ∧ v = 80 then .imps2 else if n = 3 ∧ v = 80 then .imex else mtype) := by
  match n with
  | 0 | 2 | 3 =>
    simp only [detectStep]
    split <;> simp_all
  | 1 =>
    simp only [detectStep]
    split_ifs <;> simp_all

/-- The mouse with a sample rate stored and the detection sequence stepped by it (R309). -/
def Mouse.storeSampleRate (v : Byte) (m : Mouse) : Mouse :=
  { m with
    sampleRate := v
    detectState := (detectStep m.detectState m.mtype v).1
    mtype := (detectStep m.detectState m.mtype v).2 }

/-! ## A packet (R312, R313) -/

theorem packetLength_eq (mtype : MouseType) : packetLength mtype = if mtype = .plain then 3 else 4 := by
  cases mtype <;> rfl

theorem packetLength_pos (mtype : MouseType) : 0 < packetLength mtype := by
  cases mtype <;> decide

theorem Mouse.length_packet (m : Mouse) : m.packet.length = packetLength m.mtype := by
  unfold Mouse.packet
  cases m.mtype <;> rfl

/-- What is left of an amount after as much as a packet carries of it is taken off. -/
theorem sub_clamp_eq_sign_mul (n : Nat) (x : Int) :
    x - max (-(n : Int)) (min n x) = x.sign * (x.natAbs - n : Nat) := by
  rcases lt_trichotomy x 0 with hneg | rfl | hpos
  · rw [Int.sign_eq_neg_one_of_neg hneg]
    omega
  · rw [Int.sign_zero]
    omega
  · rw [Int.sign_eq_one_of_pos hpos]
    omega

theorem sub_clamp127_eq_sign_mul (x : Int) : x - clamp127 x = x.sign * (x.natAbs - 127 : Nat) := by
  rw [clamp127_eq_max_min]
  exact sub_clamp_eq_sign_mul 127 x

theorem sub_clamp7_eq_sign_mul (x : Int) : x - clamp7 x = x.sign * (x.natAbs - 7 : Nat) := by
  rw [clamp7_eq_max_min]
  exact sub_clamp_eq_sign_mul 7 x

/-- The vertical amount is sent negated, and its negation taken off. -/
theorem add_clamp127_neg_eq_sign_mul (x : Int) : x + clamp127 (-x) = x.sign * (x.natAbs - 127 : Nat) := by
  have hneg := sub_clamp127_eq_sign_mul (-x)
  rw [Int.sign_neg, Int.natAbs_neg, Int.neg_mul] at hneg
  omega

/-! ### Sending it -/

theorem MouseEffect.length_le {s t : State} {m : Mouse} {bs : List Byte} {out : List Output}
    (hq : t.mouse.q.wf = true) (h : MouseEffect s t m bs out) : bs.length ≤ Config.ps2Qcap :=
  h.queue ▸ ByteQueue.length_contents_le hq

theorem pushMouse_wf (b : Byte) {s : State} (hq : s.mouse.q.wf = true) : (pushMouse b s).mouse.q.wf = true := by
  unfold pushMouse
  split
  · exact hq
  · next hfull => exact ByteQueue.enqueue_wf _ b hq (Bool.not_eq_true _ ▸ hfull)

theorem pushMouseAll_wf (bs : List Byte) {s : State} (hq : s.mouse.q.wf = true) :
    (pushMouseAll bs s).mouse.q.wf = true := by
  induction bs generalizing s with
  | nil => exact hq
  | cons b bs ih => exact ih (pushMouse_wf b hq)

theorem sendPacket_wf {s : State} (hq : s.mouse.q.wf = true) : (sendPacket s).mouse.q.wf = true :=
  pushMouseAll_wf s.mouse.packet hq

/-- A packet after an effect: its bytes as far as there is room, and the amounts taken off whatever was dropped. -/
theorem MouseEffect.sendPacket {s t : State} {m : Mouse} {bs : List Byte} {out : List Output}
    (hq : t.mouse.q.wf = true) (h : MouseEffect s t m bs out) :
    MouseEffect s (Machine.sendPacket t) m.afterPacket ((bs ++ m.packet).take Config.ps2Qcap)
      (out ++ List.replicate (min m.packet.length (Config.ps2Qcap - bs.length)) (.mouseIrq true)) := by
  have hsent : Machine.sendPacket t =
      { pushMouseAll m.packet t with
        mouse := { (pushMouseAll m.packet t).mouse with
          dx := m.dx - m.sx, dy := m.dy + m.sy, dz := m.dz - m.dz1 } } := by
    unfold Machine.sendPacket
    rw [h.device]
    rfl
  rw [hsent]
  exact (h.pushAll m.packet hq).after
    (fun k => { k with dx := m.dx - m.sx, dy := m.dy + m.sy, dz := m.dz - m.dz1 }) fun _ _ _ => rfl

/-- Where a whole packet fits, none of it is dropped (R312). -/
theorem MouseEffect.sendPacket_of_fits {s t : State} {m : Mouse} {bs : List Byte} {out : List Output}
    (hq : t.mouse.q.wf = true) (h : MouseEffect s t m bs out)
    (hfits : bs.length + packetLength m.mtype ≤ Config.ps2Qcap) :
    MouseEffect s (Machine.sendPacket t) m.afterPacket (bs ++ m.packet)
      (out ++ List.replicate (packetLength m.mtype) (.mouseIrq true)) := by
  have hsent := h.sendPacket hq
  rwa [Mouse.length_packet, min_eq_left (by omega),
    List.take_of_length_le (by rw [List.length_append, Mouse.length_packet]; exact hfits)] at hsent

/-- The acknowledgment and the packet of a poll (R297) fill the queue as one reply. -/
theorem poll_replies {s : State} (hs : s.mouse.Sound) :
    MouseReplies s (sendPacket (pushMouse ackByte s)) s.mouse.afterPacket (ackByte :: s.mouse.packet) := by
  obtain ⟨hq, hack⟩ := (MouseEffect.refl hs).push ackByte hs.queue
  have hsent := hack.sendPacket hq
  rwa [take_append_take, List.append_assoc, List.singleton_append, List.append_assoc,
    List.replicate_append_replicate, accepted_cons, ByteQueue.length_contents, List.nil_append] at hsent

/-! ## The sync (R312) -/

/-- A sync of the mouse `m` over `n` queued bytes sends `k` packets (R312): whole ones only, and it goes on exactly
while something is left and a whole packet fits. -/
structure Mouse.Syncs (m : Mouse) (n k : Nat) : Prop where
  fits : n + k * packetLength m.mtype ≤ Config.ps2Qcap
  moving : ∀ j, 0 < j → j < k → (m.afterPackets j).still = false
  stops : (0 < k ∧ (m.afterPackets k).still = true) ∨ Config.ps2Qcap < n + (k + 1) * packetLength m.mtype

/-- No packet where none fits. -/
theorem Mouse.Syncs.none {m : Mouse} {n : Nat} (hn : n ≤ Config.ps2Qcap)
    (hfull : ¬ n + packetLength m.mtype ≤ Config.ps2Qcap) : m.Syncs n 0 where
  fits := by omega
  moving j _ hj := absurd hj (Nat.not_lt_zero j)
  stops := .inr (by omega)

/-- One packet where nothing is left after it. -/
theorem Mouse.Syncs.last {m : Mouse} {n : Nat} (hfits : n + packetLength m.mtype ≤ Config.ps2Qcap)
    (hstill : m.afterPacket.still = true) : m.Syncs n 1 where
  fits := by omega
  moving j hpos hj := by omega
  stops := .inl ⟨Nat.one_pos, hstill⟩

/-- One packet, and what the sync sends of the rest. -/
theorem Mouse.Syncs.more {m : Mouse} {n k : Nat} (hmoving : m.afterPacket.still = false)
    (h : m.afterPacket.Syncs (n + packetLength m.mtype) k) : m.Syncs n (k + 1) where
  fits := by
    have hfits : n + packetLength m.mtype + k * packetLength m.mtype ≤ Config.ps2Qcap := h.fits
    rw [Nat.succ_mul]
    omega
  moving
    | 0, hpos, _ => absurd hpos (Nat.lt_irrefl 0)
    | 1, _, _ => hmoving
    | j + 2, _, hj => h.moving (j + 1) j.succ_pos (Nat.lt_of_succ_lt_succ hj)
  stops := by
    rcases h.stops with ⟨-, hstill⟩ | hfull
    · exact .inl ⟨k.succ_pos, hstill⟩
    · have hfull : Config.ps2Qcap < n + packetLength m.mtype + (k + 1) * packetLength m.mtype := hfull
      rw [Nat.succ_mul (k + 1)]
      exact .inr (by omega)

/-- `t` is `s` after an effect that left `m` and `bs`, then `k` whole packets (R313). -/
def SentPackets (s t : State) (m : Mouse) (bs : List Byte) (out : List Output) (k : Nat) : Prop :=
  MouseEffect s t (m.afterPackets k) (bs ++ m.packets k)
    (out ++ List.replicate (k * packetLength m.mtype) (.mouseIrq true))

theorem MouseEffect.sentPackets_zero {s t : State} {m : Mouse} {bs : List Byte} {out : List Output}
    (h : MouseEffect s t m bs out) : SentPackets s t m bs out 0 := by
  simpa [SentPackets, Mouse.afterPackets, Mouse.packets] using h

/-- One packet more, sent first. -/
theorem SentPackets.succ {s t : State} {m : Mouse} {bs : List Byte} {out : List Output} {k : Nat}
    (h : SentPackets s t m.afterPacket (bs ++ m.packet)
      (out ++ List.replicate (packetLength m.mtype) (.mouseIrq true)) k) : SentPackets s t m bs out (k + 1) := by
  unfold SentPackets at h ⊢
  rw [List.append_assoc, List.append_assoc, List.replicate_append_replicate] at h
  rw [Nat.succ_mul, Nat.add_comm (k * packetLength m.mtype)]
  exact h

theorem mouseSyncLoop_of_fits {s : State} (fuel : Nat)
    (hfits : s.mouse.q.count + packetLength s.mouse.mtype ≤ Config.ps2Qcap) :
    mouseSyncLoop (fuel + 1) s =
      if (sendPacket s).mouse.still then sendPacket s else mouseSyncLoop fuel (sendPacket s) :=
  if_pos hfits

theorem mouseSyncLoop_of_not_fits {s : State} (fuel : Nat)
    (hfull : ¬ s.mouse.q.count + packetLength s.mouse.mtype ≤ Config.ps2Qcap) : mouseSyncLoop (fuel + 1) s = s :=
  if_neg hfull

/-- The loop after an effect. Each packet fills at least one slot, so a turn for each free slot is enough (log 13). -/
theorem MouseEffect.mouseSyncLoop (fuel : Nat) {s t : State} {m : Mouse} {bs : List Byte} {out : List Output}
    (hq : t.mouse.q.wf = true) (h : MouseEffect s t m bs out) (hfuel : Config.ps2Qcap ≤ bs.length + fuel) :
    ∃ k, m.Syncs bs.length k ∧ SentPackets s (Machine.mouseSyncLoop fuel t) m bs out k := by
  induction fuel generalizing t m bs out with
  | zero =>
    have hpos := packetLength_pos m.mtype
    exact ⟨0, .none (h.length_le hq) (by omega), h.sentPackets_zero⟩
  | succ fuel ih =>
    have hpos := packetLength_pos m.mtype
    have hcount : t.mouse.q.count = bs.length := by rw [← h.queue, ByteQueue.length_contents]
    have htype : t.mouse.mtype = m.mtype := by rw [h.device]
    by_cases hfits : bs.length + packetLength m.mtype ≤ Config.ps2Qcap
    · have hsent := h.sendPacket_of_fits hq hfits
      have hlength : (bs ++ m.packet).length = bs.length + packetLength m.mtype := by
        rw [List.length_append, Mouse.length_packet]
      have hleft : (Machine.sendPacket t).mouse.still = m.afterPacket.still := by
        rw [hsent.device]
        rfl
      rw [mouseSyncLoop_of_fits fuel (by rwa [hcount, htype]), hleft]
      cases hstill : m.afterPacket.still with
      | true => exact ⟨1, .last hfits hstill, .succ hsent.sentPackets_zero⟩
      | false =>
        obtain ⟨k, hsyncs, hpackets⟩ := ih (sendPacket_wf hq) hsent (by omega)
        exact ⟨k + 1, .more hstill (hlength ▸ hsyncs), .succ hpackets⟩
    · rw [mouseSyncLoop_of_not_fits fuel (by rwa [hcount, htype])]
      exact ⟨0, .none (h.length_le hq) hfits, h.sentPackets_zero⟩

/-! ## Host events (R311) -/

theorem Mouse.still_iff (m : Mouse) : m.still = true ↔ m.dx = 0 ∧ m.dy = 0 ∧ m.dz = 0 := by
  simp [Mouse.still, and_assoc]

/-- The mouse after a host event is accumulated (R311). -/
def Mouse.accumulate (ex ey ez : Int) (b : Byte) (m : Mouse) : Mouse :=
  { m with dx := m.dx + ex, dy := m.dy + ey, dz := m.dz + ez, buttons := b }

theorem exec_ps2MouseEvent_of_disabled (ex ey ez : Int) (b : Byte) {s : State} (hdis : s.mouse.status[5] = false) :
    exec (.ps2MouseEvent ex ey ez b) s = .next s := by
  simp only [exec, execPs2MouseEvent, hdis, Bool.false_eq_true, if_false]

/-- An enabled mouse accumulates, and syncs in stream mode where something is left to report. Where nothing is, the
buttons that the event does not store are those already held. -/
theorem exec_ps2MouseEvent_of_enabled (ex ey ez : Int) (b : Byte) {s : State} (hen : s.mouse.status[5] = true) :
    exec (.ps2MouseEvent ex ey ez b) s =
      .next (if s.mouse.status[6] = true ∨
          ((s.mouse.accumulate ex ey ez b).still = true ∧ s.mouse.buttons = b) then
        { s with mouse := s.mouse.accumulate ex ey ez b }
      else mouseSync { s with mouse := s.mouse.accumulate ex ey ez b }) := by
  simp only [exec, execPs2MouseEvent, hen, if_true, Bool.and_eq_true, beq_iff_eq]
  by_cases hquiet : (s.mouse.accumulate ex ey ez b).still = true ∧ s.mouse.buttons = b
  · rw [if_pos (Or.inr hquiet)]
    obtain ⟨hstill, rfl⟩ := hquiet
    exact if_pos ⟨hstill, rfl⟩
  · simp only [hquiet, or_false]
    refine (if_neg hquiet).trans ?_
    split <;> rfl

/-! ## Reading (R314) -/

theorem MouseEffect.emit {s t : State} {m : Mouse} {bs : List Byte} {out : List Output} (h : MouseEffect s t m bs out)
    (o : Output) : MouseEffect s (t.emit o) m bs (out ++ [o]) where
  device := h.device
  queue := h.queue
  line := h.line
  rest := by
    rw [← List.append_assoc]
    exact congrArg (State.emit · o) h.rest

theorem popMouseValue_eq_headD (s : State) : popMouseValue s = s.mouse.q.contents.headD 0x00 := by
  unfold popMouseValue
  match hq : s.mouse.q.contents with
  | [] => exact if_pos ((ByteQueue.contents_eq_nil _).mp hq)
  | b :: bs =>
    obtain ⟨hcount, hfront, -⟩ := ByteQueue.pop_of_contents hq
    rw [if_neg (by omega), hfront]
    rfl

/-- The head is taken under the lowered line, which is raised again where bytes remain (40 R141; 60 R357). -/
theorem lowered_popMouse_effect (s : State) :
    MouseEffect s (popMouse (setMouseIrq false s)) s.mouse s.mouse.q.contents.tail
      (.mouseIrq false :: if s.mouse.q.contents.tail = [] then [] else [.mouseIrq true]) := by
  rw [popMouse_effect, setMouseIrq_q]
  match hq : s.mouse.q.contents with
  | [] =>
    rw [if_pos ((ByteQueue.contents_eq_nil _).mp hq)]
    exact ⟨rfl, hq, rfl, rfl⟩
  | [b] =>
    obtain ⟨hcount, -, hrest⟩ := ByteQueue.pop_of_contents hq
    rw [List.length_nil] at hcount
    rw [if_neg (by omega), if_pos hcount]
    exact ⟨rfl, hrest, rfl, rfl⟩
  | b :: b' :: bs =>
    obtain ⟨hcount, -, hrest⟩ := ByteQueue.pop_of_contents hq
    rw [List.length_cons] at hcount
    rw [if_neg (by omega), if_neg (by omega)]
    refine ⟨rfl, hrest, rfl, ?_⟩
    rw [setMouseIrq_out, List.append_assoc]
    rfl

/-! ## The statements -/

/-- Settles O45: an acknowledgment behind an update of the status byte. -/
theorem mouseModeCommands : Obligations.MouseModeCommands := by
  intro s hs
  iterate 6 rw [List.forall_mem_cons]
  exact ⟨⟨_, rfl, clearMouseStatus_replies hs 0x10 [ackByte]⟩, ⟨_, rfl, setMouseStatus_replies hs 0x10 [ackByte]⟩,
    ⟨_, rfl, clearMouseStatus_replies hs 0x40 [ackByte]⟩, ⟨_, rfl, setMouseStatus_replies hs 0x40 [ackByte]⟩,
    ⟨_, rfl, setMouseStatus_replies hs 0x20 [ackByte]⟩, ⟨_, rfl, clearMouseStatus_replies hs 0x20 [ackByte]⟩,
    List.forall_mem_nil _⟩

/-- Settles O46: three of the rows write the wrap mode and acknowledge, the echo alone replies with its byte. -/
theorem mouseWrapCommands : Obligations.MouseWrapCommands := by
  intro v s hs
  iterate 4 rw [List.forall_mem_cons]
  exact ⟨⟨_, rfl, setWrap_replies hs true [ackByte]⟩, ⟨_, rfl, setWrap_replies hs false [ackByte]⟩,
    ⟨_, rfl, setWrap_replies hs false [ackByte]⟩, ⟨_, rfl, pushMouseAll_replies [v] hs⟩, List.forall_mem_nil _⟩

/-- Settles O47: the argument is stored before its acknowledgment and no longer awaited after it. -/
theorem mouseArguments : Obligations.MouseArguments := by
  intro v s hs
  have hres := MouseReplies.of_update_before (f := fun m => { m with resolution := v }) (fun _ _ _ => rfl) [ackByte] hs
  have hsample := MouseReplies.of_update_before (f := Mouse.storeSampleRate v) (fun _ _ _ => rfl) [ackByte] hs
  iterate 4 rw [List.forall_mem_cons]
  refine ⟨⟨_, rfl, setAuxCmd_replies hs (some .setRes) [ackByte]⟩,
    ⟨_, rfl, setAuxCmd_replies hs (some .setSample) [ackByte]⟩, ⟨_, rfl, hres.then_setAuxCmd none⟩,
    ⟨_, rfl, ?_⟩, List.forall_mem_nil _⟩
  have hforgotten := hsample.then_setAuxCmd none
  simp only [Mouse.storeSampleRate, detectStep_eq] at hforgotten ⊢
  exact hforgotten

/-- Settles O48: two reports of an unchanged mouse, and two acknowledged updates. -/
theorem mouseReportsAndDefaults : Obligations.MouseReportsAndDefaults := by
  intro s hs
  have hdefaults := MouseReplies.of_update_before
    (f := fun m => { m with sampleRate := 100, resolution := 2, status := 0x00 }) (fun _ _ _ => rfl) [ackByte] hs
  have hreset := MouseReplies.of_update_before
    (f := fun m => { m with sampleRate := 100, resolution := 2, status := 0x00, mtype := .plain }) (fun _ _ _ => rfl)
    [ackByte, 0xAA, MouseType.plain.toByte] hs
  iterate 4 rw [List.forall_mem_cons]
  exact ⟨⟨_, rfl, pushMouseAll_replies [ackByte, s.mouse.status, s.mouse.resolution, s.mouse.sampleRate] hs⟩,
    ⟨_, rfl, pushMouseAll_replies [ackByte, s.mouse.mtype.toByte] hs⟩, ⟨_, rfl, hdefaults⟩, ⟨_, rfl, hreset⟩,
    List.forall_mem_nil _⟩

/-- Settles O49: the acknowledgment and the packet are one reply, and an unknown command leaves the state. -/
theorem mousePollAndUnknown : Obligations.MousePollAndUnknown := fun _ _ hs =>
  ⟨⟨_, rfl, poll_replies hs⟩, rfl⟩

/-- Settles O51: each accumulator loses its clamped amount, the vertical one through two negations. -/
theorem packetConsumesMotion : Obligations.PacketConsumesMotion := by
  intro m
  refine ⟨sub_clamp127_eq_sign_mul m.dx, add_clamp127_neg_eq_sign_mul m.dy, ?_⟩
  cases htype : m.mtype with
  | plain | imps2 =>
    rw [Mouse.afterPacket, Mouse.dz1, htype]
    exact sub_clamp127_eq_sign_mul m.dz
  | imex =>
    rw [Mouse.afterPacket, Mouse.dz1, htype]
    exact sub_clamp7_eq_sign_mul m.dz

/-- Settles O52: without the enable bit the event is ignored, and with it only stream mode syncs. -/
theorem mouseEventQuiet : Obligations.MouseEventQuiet := by
  intro ex ey ez b s
  refine ⟨exec_ps2MouseEvent_of_disabled ex ey ez b, fun hen hquiet => ?_⟩
  rw [exec_ps2MouseEvent_of_enabled ex ey ez b hen, if_pos]
  · rfl
  · exact hquiet.imp_right fun ⟨hdx, hdy, hdz, hb⟩ => ⟨(Mouse.still_iff _).mpr ⟨hdx, hdy, hdz⟩, hb⟩

/-- Settles O53: the sync runs over the accumulated mouse, with a turn for each slot of the queue. -/
theorem mouseEventStream : Obligations.MouseEventStream := by
  intro ex ey ez b s hs hen hstream m plen hleft
  have hplen : plen = packetLength m.mtype := (packetLength_eq m.mtype).symm
  have hupdate : MouseEffect s { s with mouse := m } m s.mouse.q.contents [] :=
    .of_update (f := Mouse.accumulate ex ey ez b) (fun _ _ _ => rfl) hs
  obtain ⟨k, hsyncs, heffect⟩ :=
    hupdate.mouseSyncLoop Config.ps2Qcap (t := { s with mouse := m }) hs.queue (Nat.le_add_left _ _)
  have hexec : exec (.ps2MouseEvent ex ey ez b) s = .next (mouseSync { s with mouse := m }) := by
    rw [exec_ps2MouseEvent_of_enabled ex ey ez b hen, if_neg]
    · rfl
    · rintro (hremote | ⟨hstill, hb⟩)
      · exact Bool.false_ne_true (hstream.symm.trans hremote)
      · obtain ⟨hdx, hdy, hdz⟩ := (Mouse.still_iff _).mp hstill
        exact hleft ⟨hdx, hdy, hdz, hb⟩
  rw [ByteQueue.length_contents] at hsyncs
  rw [hplen]
  exact ⟨_, k, hexec, heffect, hsyncs.fits, hsyncs.moving, hsyncs.stops⟩

/-- Settles O54: no byte, one byte, or more are queued. -/
theorem mouseRead : Obligations.MouseRead := by
  intro s
  refine ⟨_, rfl, ?_⟩
  have hread := (lowered_popMouse_effect s).emit (.returned .mouse (s.mouse.q.contents.headD 0x00))
  rw [popMouseValue_eq_headD, setMouseIrq_q]
  split <;> next hq =>
    rw [hq] at hread ⊢
    exact hread

end Sys2Proof.Machine
end

section
/-! PROOFS. The exceptions of the block (spec/60_exceptions.md): which operations the contract refuses (R341; log 6),
when a channel requests an interrupt (R343) and the vector constants (R345). -/

namespace Sys2Proof.Machine

/-! ## Refusals, check by check (R341) -/

theorem decodeOffset_eq_none_iff {k offset : Nat} : decodeOffset k offset = none ↔ ¬ offset < 4 * 2 ^ k := by
  rw [← Nat.shiftLeft_eq]
  unfold decodeOffset
  split_ifs with hwindow <;> simp [hwindow]

theorem withByte_eq_refused_iff {value : Nat} {k : Byte → Instr} {why : Breach} :
    withByte value k = .refused why ↔ 256 ≤ value ∧ why = .valueRange := by
  unfold withByte
  split_ifs with hlt
  · simp [hlt]
  · simp [Nat.le_of_not_lt hlt, eq_comm]

/-- The window comes before the size, and the size before what `f` checks, where that does not rest on the port. -/
theorem withAccess_eq_refused_iff {k offset size : Nat} {f : Port → Decoded} {why : Breach} {P : Prop}
    (hf : ∀ port, f port = .refused why ↔ P) :
    withAccess k offset size f = .refused why ↔
      offset < 4 * 2 ^ k ∧ (size ≠ 1 ∧ why = .accessSize ∨ size = 1 ∧ P) := by
  unfold withAccess
  cases hport : decodeOffset k offset with
  | none => simp [decodeOffset_eq_none_iff.mp hport]
  | some port =>
    have hwindow : offset < 4 * 2 ^ k :=
      not_not.mp fun h => Option.some_ne_none port (hport.symm.trans (decodeOffset_eq_none_iff.mpr h))
    by_cases hsize : size = 1
    · simp [hsize, hwindow, hf]
    · simp [hsize, hwindow, eq_comm]

/-- The channel comes before what `f` checks, where that does not rest on the channel. -/
theorem withChan_eq_refused_iff {n : Nat} {f : Chan → Decoded} {why : Breach} {P : Prop}
    (hf : ∀ c, f c = .refused why ↔ P) :
    withChan n f = .refused why ↔ 2 ≤ n ∧ why = .channelIndex ∨ n < 2 ∧ P := by
  rcases n with _ | _ | n
  · simpa [withChan, Chan.ofIndex] using hf .B
  · simpa [withChan, Chan.ofIndex] using hf .A
  · simp [withChan, Chan.ofIndex, eq_comm]

/-- An operation breaks the contract of R341 as `why` says, the checks being made in the order of log 6. -/
def Breaks (itShift : Nat) (why : Breach) : Op → Prop
  | .esccWrite offset size value =>
    offset < 4 * 2 ^ itShift ∧ (size ≠ 1 ∧ why = .accessSize ∨ size = 1 ∧ 256 ≤ value ∧ why = .valueRange)
  | .esccRead offset size => offset < 4 * 2 ^ itShift ∧ (size ≠ 1 ∧ why = .accessSize ∨ size = 1 ∧ False)
  | .receive n value => 2 ≤ n ∧ why = .channelIndex ∨ n < 2 ∧ 256 ≤ value ∧ why = .valueRange
  | .receiveBreak n | .keyEvent n _ _ | .mouseEvent n _ _ _ _ => 2 ≤ n ∧ why = .channelIndex ∨ n < 2 ∧ False
  | .kbdWrite value | .mouseWrite value | .kbdEmit value => 256 ≤ value ∧ why = .valueRange
  | .esccReset | .kbdRead | .kbdSetTranslate _ | .kbdReset | .mouseRead | .ps2MouseEvent .. | .mouseReset => False

theorem instr_eq_refused_iff {i : Instr} {why : Breach} : Decoded.instr i = .refused why ↔ False :=
  iff_of_false nofun id

/-- The decoder refuses an operation for the breach it commits, and for no other. -/
theorem decode_eq_refused_iff (p : Protocol) (why : Breach) (o : Op) :
    decode p o = .refused why ↔ Breaks p.itShift why o := by
  cases o with
  | esccWrite offset size value => exact withAccess_eq_refused_iff fun _ => withByte_eq_refused_iff
  | esccRead offset size => exact withAccess_eq_refused_iff fun _ => instr_eq_refused_iff
  | receive n value => exact withChan_eq_refused_iff fun _ => withByte_eq_refused_iff
  | receiveBreak | keyEvent | mouseEvent => exact withChan_eq_refused_iff fun _ => instr_eq_refused_iff
  | kbdWrite | mouseWrite | kbdEmit => exact withByte_eq_refused_iff
  | esccReset | kbdRead | kbdSetTranslate | kbdReset | mouseRead | ps2MouseEvent | mouseReset =>
    exact instr_eq_refused_iff

/-! ## Register bits as numbers (D9) -/

theorem topBit_iff (v : Byte) : v[7] = true ↔ 128 ≤ v.toNat := by
  rw [getElem_eq_true_iff]
  omega

/-! ## The statements -/

/-- Settles O4: what the decoder refuses, read at each of the three breaches. -/
theorem refusalsAreTheBreaches : Obligations.RefusalsAreTheBreaches := by
  intro p o
  simp only [decode_eq_refused_iff]
  cases o <;> simp [Breaks]

/-- Settles O34: the three requests, each bit as a number. -/
theorem channelWants : Obligations.ChannelWants := by
  intro ch
  have htx : ch.wr[1][1] = true ↔ ch.wr[1].toNat / 2 % 2 = 1 := getElem_eq_true_iff ch.wr[1] 1 (by decide)
  rw [wants_iff, htx, topBit_iff, topBit_iff]

/-- Settles O35: each constant is its placed code, in the low form and in the high form. -/
theorem vectorConstants : Obligations.VectorConstants
  | false => ⟨rfl, rfl, rfl, rfl, rfl⟩
  | true => ⟨rfl, rfl, rfl, rfl, rfl⟩

end Sys2Proof.Machine
end

section
/-! PROOFS. The resets (spec/70_reset_and_hazards.md R391 to R396): a channel and the ESCC, the PS/2 mouse, and
power-on as the three device resets one after the other. -/

namespace Sys2Proof.Machine

/-! ## A channel and the ESCC (R391 to R393) -/

/-- A channel in reset state requests no interrupt: nothing is pending and the break bit is clear (60 R343). -/
theorem afterReset_wants (ch : Channel) : ch.afterReset.wants = false := by
  have hbits : ∀ disabled, (resetRR disabled)[0][7] = false := by decide
  have hbreak : ch.afterReset.rr[0][7] = false := hbits ch.disabled
  rw [← Bool.not_eq_true, wants_iff, hbreak]
  simp [Channel.afterReset]

theorem resetChannel_chan_same (x : Chan) (s : State) : (resetChannel x s).chan x = (s.chan x).afterReset :=
  modChan_chan_same s x _

/-- Neither channel reset touches the other channel, so their order does not matter (R391, R392). -/
theorem esccResetAll_eq_reverse (s : State) : esccResetAll s = resetChannel .A (resetChannel .B s) := rfl

theorem esccResetAll_chan (s : State) (x : Chan) : (esccResetAll s).chan x = (s.chan x).afterReset := by
  cases x <;> rfl

/-- The line is low where both channels are as a reset leaves them (60 R344). -/
theorem irqLine_of_afterReset {s t : State} (h : ∀ x, t.chan x = (s.chan x).afterReset) : t.irqLine = false := by
  rw [irqLine_eq t .A, h, h, afterReset_wants, afterReset_wants]
  rfl

/-! ## The PS/2 devices (R394, R395) -/

theorem mouseDeviceReset_effect (s : State) : MouseEffect s (mouseDeviceReset s) Mouse.reset [] [.mouseIrq false] :=
  ⟨rfl, ByteQueue.clear_contents _, rfl, rfl⟩

/-- Power-on leaves both channels as the reset of the ESCC does: the PS/2 resets do not touch them (R390, R396). -/
theorem powerOn_resets_chan (s : State) (x : Chan) :
    (mouseDeviceReset (kbdDeviceReset (esccResetAll s))).chan x = (s.chan x).afterReset := by
  rw [mouseDeviceReset_chan, kbdDeviceReset_chan, esccResetAll_chan]

/-! ## The statements -/

/-- Settles O55: the reset values of the channel, with its queue cleared. -/
theorem resetTable : Obligations.ResetTable := by
  intro x s ch
  have hreset : ch = { Channel.reset (s.chan x).role (s.chan x).disabled with q := (s.chan x).q.clear } := by
    rw [← afterReset_eq]
    exact resetChannel_chan_same x s
  have hwants : ch.wants = false := (congrArg Channel.wants (resetChannel_chan_same x s)).trans (afterReset_wants _)
  have hcontents : ch.q.contents = [] := by
    rw [hreset]
    exact ByteQueue.clear_contents _
  rw [hreset] at hwants hcontents ⊢
  exact ⟨rfl, rfl, rfl, rfl, rfl, rfl, rfl, hcontents, rfl, rfl, rfl, rfl, rfl, rfl, rfl, rfl, hwants, rfl, rfl⟩

/-- Settles O56: the two channel resets commute, and the reset code runs the same two. -/
theorem esccResetEffect : Obligations.EsccResetEffect := by
  intro c low s
  refine ⟨esccResetAll s, rfl, rfl, irqLine_of_afterReset (esccResetAll_chan s),
    ⟨_, resetChannel_effect .A s, resetChannel_effect .B _⟩, ⟨_, resetChannel_effect .B s, ?_⟩⟩
  rw [esccResetAll_eq_reverse]
  exact resetChannel_effect .A _

/-- Settles O57: the mouse's reset alone, then the three resets, each leaving the other devices alone. -/
theorem mouseResetAndPowerOn : Obligations.MouseResetAndPowerOn := by
  intro s
  refine ⟨⟨_, rfl, mouseDeviceReset_effect s⟩, _, _, _, rfl, rfl, rfl, fun x => ?_, rfl,
    ByteQueue.clear_contents _, rfl, ByteQueue.clear_contents _, irqLine_of_afterReset (powerOn_resets_chan s)⟩
  rw [powerOn_resets_chan, afterReset_eq]
  exact ⟨rfl, ByteQueue.clear_contents _⟩

end Sys2Proof.Machine
end

section
/-! PROOFS. How every instruction moves the sequencing state (spec/70_reset_and_hazards.md R399, with the resets of
R391, R394 and R395; 46_ps2_mouse.md R310), and what none may do besides completing (60 R340): take back an output,
serve an operation, change a parameter (10 R28). One relation carries both through the shared operations, each stated
behind what came before it; then one arm per row or group of rows. -/

namespace Sys2Proof.Machine

/-! ## The relation -/

/-- The protocol state with the phase of channel `c` changed by `f`. -/
def modPhase (p : Protocol) (c : Chan) (f : ChanPhase → ChanPhase) : Protocol :=
  { p with
    chA := if c = .A then f p.chA else p.chA
    chB := if c = .B then f p.chB else p.chB }

/-- From `s` to `t` outputs were only added and neither an operation that waits nor a parameter has moved; the
sequencing state of `t` is the protocol state `p` and the detection state `d`. -/
structure Moves (s t : State) (p : Protocol) (d : Fin 4) : Prop where
  outputs : s.out <+: t.out
  inputs : t.inputs = s.inputs
  params : t.params = s.params
  wiring : ∀ c, (t.chan c).role = (s.chan c).role ∧ (t.chan c).disabled = (s.chan c).disabled
  protocol : t.protocol = p
  detect : t.mouse.detectState = d

theorem Moves.refl (s : State) : Moves s s s.protocol s.mouse.detectState :=
  ⟨⟨[], List.append_nil _⟩, rfl, rfl, fun _ => ⟨rfl, rfl⟩, rfl, rfl⟩

theorem modPhase_id (p : Protocol) (c : Chan) : modPhase p c (fun x => x) = p := by cases c <;> rfl

/-! ## The ESCC -/

/-- The protocol state sees of an effect on channel `c` only what it does to that channel's phase. -/
theorem EsccEffect.protocol_eq {c : Chan} {t u : State} {ch : Channel} {rr : Chan → Fin 16 → Byte}
    {out : List Output} {f : ChanPhase → ChanPhase} (h : EsccEffect c t u ch rr out)
    (hphase : ch.phase = f (t.chan c).phase) : u.protocol = modPhase t.protocol c f := by
  have hown : (u.chan c).phase = f (t.chan c).phase := by
    rw [h.own]
    exact hphase
  have hsib : (u.chan c.sib).phase = (t.chan c.sib).phase := by
    rw [h.sibling]
    rfl
  have hkbd : u.kbd = t.kbd := by rw [h.rest]
  have hmouse : u.mouse = t.mouse := by rw [h.rest]
  have hparams : u.params = t.params := by rw [h.rest]
  unfold State.protocol
  rw [hkbd, hmouse, hparams]
  cases c
  · exact congrArg₂ (Protocol.mk · · _ _ _ _) hown hsib
  · exact congrArg₂ (Protocol.mk · · _ _ _ _) hsib hown

section Escc

variable {s t u : State} {p : Protocol} {d : Fin 4} {c : Chan} {ch : Channel} {rr : Chan → Fin 16 → Byte}
  {out : List Output} (h : Moves s t p d)
include h

/-- An effect on channel `c` that changes its phase by `f`. -/
theorem Moves.effect (f : ChanPhase → ChanPhase) (he : EsccEffect c t u ch rr out)
    (hphase : ch.phase = f (t.chan c).phase := by rfl)
    (hwiring : ch.role = (t.chan c).role ∧ ch.disabled = (t.chan c).disabled := by exact ⟨rfl, rfl⟩) :
    Moves s u (modPhase p c f) d where
  outputs := by
    rw [he.rest]
    exact h.outputs.trans ⟨_, rfl⟩
  inputs := by
    rw [he.rest]
    exact h.inputs
  params := by
    rw [he.rest]
    exact h.params
  wiring x := by
    obtain ⟨hrole, hdisabled⟩ := h.wiring x
    rcases eq_or_eq_sib x c with rfl | rfl
    · rw [he.own]
      exact ⟨hwiring.1.trans hrole, hwiring.2.trans hdisabled⟩
    · rw [he.sibling]
      exact ⟨hrole, hdisabled⟩
  protocol := by rw [he.protocol_eq hphase, h.protocol]
  detect := by
    rw [he.rest]
    exact h.detect

/-- An effect on channel `c` that leaves its phase alone. -/
theorem Moves.quiet (he : EsccEffect c t u ch rr out) (hphase : ch.phase = (t.chan c).phase := by rfl)
    (hwiring : ch.role = (t.chan c).role ∧ ch.disabled = (t.chan c).disabled := by exact ⟨rfl, rfl⟩) :
    Moves s u p d := by
  have hmoves := h.effect (fun x => x) he hphase hwiring
  rwa [modPhase_id] at hmoves

/-- An effect on channel `c` that leaves pointer `n` (41 R151 to R173). -/
theorem Moves.selects {n : BitVec 4} (he : EsccEffect c t u ch rr out)
    (hphase : ch.phase = { (t.chan c).phase with sel := n } := by rfl)
    (hwiring : ch.role = (t.chan c).role ∧ ch.disabled = (t.chan c).disabled := by exact ⟨rfl, rfl⟩) :
    Moves s u (modPhase p c fun x => { x with sel := n }) d :=
  h.effect (fun x => { x with sel := n }) he hphase hwiring

theorem Moves.emit {o : Output} : Moves s (t.emit o) p d where
  outputs := h.outputs.trans ⟨_, rfl⟩
  inputs := h.inputs
  params := h.params
  wiring x := by
    rw [emit_chan]
    exact h.wiring x
  protocol := h.protocol
  detect := h.detect

end Escc

/-- A channel replaced is an effect on it. -/
theorem setChan_effect (c : Chan) (s : State) (ch : Channel) :
    EsccEffect c s (s.setChan c ch) ch (s.setChan c ch).rrOf [] := by
  refine ⟨?_, by rw [setChan_chan_sib], fun _ _ => rfl, ?_⟩
  · rw [setChan_chan_same]
  · cases c <;> simp [State.setChan]

/-- A reset returns the channel to Idle with transmit disabled and no LED mask awaited (70 R391). -/
theorem afterReset_phase (ch : Channel) :
    ch.afterReset.phase = { ch.phase with sel := 0, txEnabled := false, ledLatch := false } := by
  have htx : resetWR[5][3] = false := by decide
  exact congrArg (fun tx => { ch.phase with sel := 0, txEnabled := tx, ledLatch := false }) htx

section Channels

variable {s t : State} {p : Protocol} {d : Fin 4} (h : Moves s t p d) (c : Chan)
include h

theorem Moves.pushChan {b : Byte} : Moves s (pushChan c b t) p d := by
  have he := pushChan_effect c b t
  split at he
  · rwa [he]
  · exact h.quiet he

theorem Moves.popChan : Moves s (popChan c t) p d := by
  have he := popChan_effect c t
  split_ifs at he
  · rwa [he]
  · exact h.quiet he
  · exact h.quiet he

theorem Moves.pushChanAll {bs : List Byte} : Moves s (pushChanAll c bs t) p d := by
  induction bs generalizing t with
  | nil => exact h
  | cons b bs ih => exact ih (h.pushChan c)

theorem Moves.storeTx {v : Byte} : Moves s (storeTx c v t) p d := h.quiet (storeTx_effect c v t)

theorem Moves.clearChan : Moves s (clearChan c t) p d := h.quiet (setChan_effect c t _)

theorem Moves.transmitDone : Moves s (transmitDone c t) p d := h.quiet (transmitDone_effect c t)

/-- A Sun keyboard's reply to a data-port write (43 R200; 44 R221, R223, R224). -/
theorem Moves.sunReply {v : Byte} {reply : List Byte} : Moves s (dataWrite c v (sunReply c reply) t) p d :=
  (((h.storeTx c).clearChan c).pushChanAll c).transmitDone c

/-- A reset of channel `x` (70 R391). -/
theorem Moves.resetChannel (x : Chan) :
    Moves s (resetChannel x t) (modPhase p x fun y => { y with sel := 0, txEnabled := false, ledLatch := false }) d :=
  h.effect (fun y => { y with sel := 0, txEnabled := false, ledLatch := false }) (setChan_effect x t _)
    (afterReset_phase _)

end Channels

/-! ## The PS/2 devices -/

section Ps2

variable {s t : State} {p : Protocol} {d : Fin 4} (h : Moves s t p d)
include h

/-- The keyboard replaced: the protocol state sees the argument it awaits. -/
theorem Moves.setKbd (k : Keyboard) : Moves s { t with kbd := k } { p with kbdArg := k.writeCmd } d where
  outputs := h.outputs
  inputs := h.inputs
  params := h.params
  wiring c := by
    have hwiring := h.wiring c
    cases c <;> exact hwiring
  protocol := by rw [← h.protocol]; rfl
  detect := h.detect

/-- The mouse replaced: the protocol state sees the argument it awaits and its wrap mode. -/
theorem Moves.setMouse (m : Mouse) :
    Moves s { t with mouse := m } { p with auxArg := m.writeCmd, wrap := m.wrap } m.detectState where
  outputs := h.outputs
  inputs := h.inputs
  params := h.params
  wiring c := by
    have hwiring := h.wiring c
    cases c <;> exact hwiring
  protocol := by rw [← h.protocol]; rfl
  detect := rfl

theorem Moves.kbdArg_eq : t.kbd.writeCmd = p.kbdArg := congrArg Protocol.kbdArg h.protocol

theorem Moves.auxArg_eq : t.mouse.writeCmd = p.auxArg := congrArg Protocol.auxArg h.protocol

theorem Moves.wrap_eq : t.mouse.wrap = p.wrap := congrArg Protocol.wrap h.protocol

/-- The keyboard replaced by one that awaits the same argument. -/
theorem Moves.quietKbd {k : Keyboard} (hcmd : k.writeCmd = t.kbd.writeCmd := by rfl) :
    Moves s { t with kbd := k } p d := by
  have hmoves := h.setKbd k
  rwa [hcmd, h.kbdArg_eq] at hmoves

/-- The mouse replaced by one with the same sequencing state. -/
theorem Moves.quietMouse {m : Mouse} (hcmd : m.writeCmd = t.mouse.writeCmd := by rfl)
    (hwrap : m.wrap = t.mouse.wrap := by rfl) (hdetect : m.detectState = t.mouse.detectState := by rfl) :
    Moves s { t with mouse := m } p d := by
  have hmoves := h.setMouse m
  rwa [hcmd, hwrap, hdetect, h.auxArg_eq, h.wrap_eq, h.detect] at hmoves

theorem Moves.setKbdCmd {a : Option KbdArg} : Moves s (setKbdCmd a t) { p with kbdArg := a } d := h.setKbd _

theorem Moves.setAuxCmd {a : Option AuxArg} : Moves s (setAuxCmd a t) { p with auxArg := a } d := by
  have hmoves := h.setMouse { t.mouse with writeCmd := a }
  rwa [h.detect, h.wrap_eq] at hmoves

theorem Moves.setWrap {on : Bool} : Moves s (setWrap on t) { p with wrap := on } d := by
  have hmoves := h.setMouse { t.mouse with wrap := on }
  rwa [h.detect, h.auxArg_eq] at hmoves

theorem Moves.setScanEnabled {on : Bool} : Moves s (setScanEnabled on t) p d := h.quietKbd

/-- The keyboard's full reset forgets no awaited argument (45 R266). -/
theorem Moves.kbdFullReset : Moves s (kbdFullReset t) p d := h.quietKbd.emit

theorem Moves.clearKbd : Moves s (clearKbd t) p d := h.quietKbd.emit

theorem Moves.clearMouse : Moves s (clearMouse t) p d := h.quietMouse.emit

theorem Moves.pushKbd {b : Byte} : Moves s (pushKbd b t) p d := by
  unfold Machine.pushKbd
  split
  · exact h
  · exact h.quietKbd.emit

theorem Moves.pushMouse {b : Byte} : Moves s (pushMouse b t) p d := by
  unfold Machine.pushMouse
  split
  · exact h
  · exact h.quietMouse.emit

theorem Moves.pushKbdAll {bs : List Byte} : Moves s (pushKbdAll bs t) p d := by
  induction bs generalizing t with
  | nil => exact h
  | cons b bs ih => exact ih h.pushKbd

theorem Moves.pushMouseAll {bs : List Byte} : Moves s (pushMouseAll bs t) p d := by
  induction bs generalizing t with
  | nil => exact h
  | cons b bs ih => exact ih h.pushMouse

theorem Moves.popKbd : Moves s (popKbd t) p d := by
  unfold Machine.popKbd
  dsimp only
  split_ifs
  · exact h
  · exact h.quietKbd.emit
  · exact h.quietKbd

theorem Moves.popMouse : Moves s (popMouse t) p d := by
  unfold Machine.popMouse
  dsimp only
  split_ifs
  · exact h
  · exact h.quietMouse.emit
  · exact h.quietMouse

/-- A packet takes its amounts off the accumulators alone (46 R313). -/
theorem Moves.sendPacket : Moves s (sendPacket t) p d := h.pushMouseAll.quietMouse

theorem Moves.mouseSyncLoop {fuel : Nat} : Moves s (mouseSyncLoop fuel t) p d := by
  induction fuel generalizing t with
  | zero => exact h
  | succ fuel ih =>
    unfold Machine.mouseSyncLoop
    dsimp only
    split_ifs
    · exact h.sendPacket
    · exact ih h.sendPacket
    · exact h

end Ps2

/-! ## The sequencing state after every instruction (70 R399) -/

/-- The detection state of the mouse after an instruction (46 R310; 70 R395). -/
def detectStateAfter (i : Instr) (m : Mouse) : Fin 4 :=
  match i with
  | .auxArgSetSample v => (detectStep m.detectState m.mtype v).1
  | .mouseReset => 0
  | _ => m.detectState

/-- `t` follows on `s` by instruction `i`, as the table of R399 has it. -/
def MovesBy (i : Instr) (s t : State) : Prop := Moves s t (i.protocolAfter s.protocol) (detectStateAfter i s.mouse)

section Instructions

variable (c : Chan) (s : State)

/-- The point-high command adds bit 3 to the pointer field (41 R153). -/
theorem highPointer_eq_add (ptr : BitVec 3) : highPointer ptr = ptr.zeroExtend 4 + 8 := by
  have hlow : (ptr.zeroExtend 4).toNat = ptr.toNat := lowPointer_toNat ptr
  have hfits : ptr.toNat < 2 ^ 3 := ptr.isLt
  refine BitVec.eq_of_toNat_eq ?_
  rw [highPointer_toNat, BitVec.toNat_add, hlow]
  exact (Nat.mod_eq_of_lt (by omega)).symm

/-- A register write returns the channel to Idle, and one of WR5 stores the transmit-enable bit (10 R36). -/
theorem storeWR_phase (k : Fin 16) (v : Byte) (ch : Channel) :
    Channel.phase { ch with wr := ch.wr.set k v, sel := 0 } =
      { ch.phase with sel := 0, txEnabled := (if 5 = k then v else ch.wr[5])[3] } := by
  have hwr : (ch.wr.set k v)[(5 : Fin 16)] = if 5 = k then v else ch.wr[5] := bank_get ch.wr k 5 v
  exact congrArg (fun b : Byte => { ch.phase with sel := 0, txEnabled := b[3] }) hwr

theorem execDr_moves : HoldsOfNext (MovesBy (.dr c) s) (execDr c s) := by
  have hretire : Moves s (retireReceive c s) s.protocol s.mouse.detectState :=
    (Moves.refl s).quiet (retireReceive_effect c s)
  by_cases hr : (s.chan c).role = .serial
  · rw [execDr_of_serial hr]
    exact hretire.emit
  · rw [execDr_of_queue hr]
    exact (hretire.popChan c).emit

theorem exec_receive_moves (b : Byte) : HoldsOfNext (MovesBy (.receive c b) s) (exec (.receive c b) s) := by
  by_cases hr : (s.chan c).role = .serial
  · rw [exec_receive_of_serial b hr]
    exact (Moves.refl s).quiet (receive_effect c b s)
  · rw [exec_receive_of_not_serial b hr]
    exact Moves.refl s

theorem exec_receiveBreak_moves : HoldsOfNext (MovesBy (.receiveBreak c) s) (exec (.receiveBreak c) s) := by
  by_cases hr : (s.chan c).role = .serial
  · rw [exec_receiveBreak_of_serial hr]
    exact (Moves.refl s).quiet (setStatus_effect c statusBrk s)
  · rw [exec_receiveBreak_of_not_serial hr]
    exact Moves.refl s

/-- The edge filters move a phase of a lock key alone (44 R228, R229). -/
theorem passKey_keeps {ch ch' : Channel} {q : Qcode} {down : Bool} (h : ch.passKey q down = some ch') :
    ch'.phase = ch.phase ∧ ch'.role = ch.role ∧ ch'.disabled = ch.disabled := by
  rw [passKey_eq] at h
  split_ifs at h
  obtain rfl := Option.some.inj h
  cases q <;> exact ⟨rfl, rfl, rfl⟩

theorem exec_keyEvent_moves (q : Qcode) (down : Bool) :
    HoldsOfNext (MovesBy (.keyEvent c q down) s) (exec (.keyEvent c q down) s) := by
  by_cases hr : (s.chan c).role = .keyboard
  · cases hpass : (s.chan c).passKey q down with
    | none =>
      rw [exec_keyEvent_of_dropped hr hpass]
      exact Moves.refl s
    | some ch =>
      obtain ⟨hphase, hwiring⟩ := passKey_keeps hpass
      have hedge := (Moves.refl s).quiet (setChan_effect c s ch) hphase hwiring
      cases hcode : Config.sunKeycode q with
      | none =>
        rw [exec_keyEvent_of_unmapped hr hpass hcode]
        exact hedge
      | some k =>
        rw [exec_keyEvent_of_mapped hr hpass hcode]
        exact hedge.pushChanAll c
  · rw [exec_keyEvent_of_not_keyboard q down hr]
    exact Moves.refl s

theorem exec_mouseEvent_moves (dx dy dz : Int) (buttons : Byte) :
    HoldsOfNext (MovesBy (.mouseEvent c dx dy dz buttons) s) (exec (.mouseEvent c dx dy dz buttons) s) := by
  by_cases hr : (s.chan c).role = .mouse
  · rw [exec_mouseEvent_of_mouse dx dy dz buttons hr]
    exact (Moves.refl s).pushChanAll c
  · rw [exec_mouseEvent_of_not_mouse dx dy dz buttons hr]
    exact Moves.refl s

/-- Whatever the argument, none is awaited after it (45 R263). -/
theorem execKbdArgScancode_moves (v : Byte) :
    HoldsOfNext (MovesBy (.kbdArgScancode v) s) (execKbdArgScancode v s) := by
  unfold execKbdArgScancode
  split
  · exact (Moves.refl s).pushKbd.setKbdCmd
  · split
    · exact (Moves.refl s).quietKbd.pushKbd.setKbdCmd
    · exact (Moves.refl s).pushKbd.setKbdCmd

/-- A sample rate steps the detection sequence before its acknowledgment (46 R309, R310). -/
theorem execAuxArgSetSample_moves (v : Byte) :
    HoldsOfNext (MovesBy (.auxArgSetSample v) s) (execAuxArgSetSample v s) :=
  ((Moves.refl s).setMouse (s.mouse.storeSampleRate v)).pushMouse.setAuxCmd

theorem execPs2MouseEvent_moves (ex ey ez : Int) (b : Byte) :
    HoldsOfNext (MovesBy (.ps2MouseEvent ex ey ez b) s) (execPs2MouseEvent ex ey ez b s) := by
  unfold execPs2MouseEvent
  dsimp only
  split_ifs
  · exact (Moves.refl s).quietMouse
  · exact (Moves.refl s).quietMouse
  · exact (Moves.refl s).quietMouse.mouseSyncLoop
  · exact Moves.refl s

/-- Every instruction moves the sequencing state as its row says, one arm per row or group of rows with one effect. -/
theorem exec_moves : ∀ i : Instr, HoldsOfNext (MovesBy i s) (exec i s)
  | .cmdNull c _ _ | .cmdUnassigned10 c _ _ | .cmdUnassigned18 c _ _ | .cmdUnassigned20 c _ _
  | .cmdUnassigned30 c _ _ => (Moves.refl s).selects (latchPointer_effect c _ s)
  | .cmdHi c _ ptr => by
    have hlatch := latchPointer_effect c (highPointer ptr) s
    exact (Moves.refl s).selects hlatch (by rw [highPointer_eq_add]; rfl)
  | .cmdClrTxint c _ _ => (Moves.refl s).selects ((clearTx_effect c s).latchPointer _)
  | .cmdClrIus c _ _ => (Moves.refl s).selects ((clearIUS_effect c s).latchPointer _)
  | .wr1 c _ | .wr2 c _ | .wr3 c _ | .wr6 c _ | .wr7 c _ | .wr8 c _ | .wr9Store c _ | .wr10 c _ | .wr11 c _
  | .wr14 c _ | .wr15 c _ => (Moves.refl s).selects (storeWR_effect c _ _ s) (storeWR_phase _ _ _)
  | .wr4 c v => (Moves.refl s).selects (storeWR_announced_effect c 4 v s) (storeWR_phase 4 v _)
  | .wr5 c v =>
    (Moves.refl s).effect (fun x => { x with sel := 0, txEnabled := v[3] }) (storeWR_announced_effect c 5 v s)
      (storeWR_phase 5 v _)
  | .wr12Brglo c v | .wr13Brghi c v =>
    (Moves.refl s).selects (storeWR_mirrored_effect c _ v s) (storeWR_phase _ v _)
  | .wr9RstB _ _ => (Moves.refl s).resetChannel .B
  | .wr9RstA _ _ => (Moves.refl s).resetChannel .A
  | .wr9RstAll _ _ | .esccReset => ((Moves.refl s).resetChannel .A).resetChannel .B
  | .rr0 c | .rr1 c | .rr2 c | .rr3 c | .rr4 c | .rr5 c | .rr6 c | .rr7 c | .rr8 c | .rr9 c | .rr10 c | .rr11 c
  | .rr12 c | .rr13 c | .rr14 c | .rr15 c => (Moves.refl s).selects (readRR_effect c _ s)
  | .dwSerial c v => (Moves.refl s).quiet (storeTx_transport_effect c v s).transmitDone
  | .dwMouse c v | .dwKbdTxoff c v | .skOther c v => ((Moves.refl s).storeTx c).transmitDone c
  | .skReset c | .skLayout07 c | .skLayout0F c => (Moves.refl s).sunReply c
  | .skSetLeds c =>
    (Moves.refl s).effect (fun x => { x with ledLatch := true }) (storeTx_ledLatch_effect c 0x0E true s).transmitDone
  | .skLedMask c v =>
    (Moves.refl s).effect (fun x => { x with ledLatch := false }) (storeTx_ledLatch_effect c v false s).transmitDone
  | .dr c => execDr_moves c s
  | .receive c b => exec_receive_moves c s b
  | .receiveBreak c => exec_receiveBreak_moves c s
  | .keyEvent c q down => exec_keyEvent_moves c s q down
  | .mouseEvent c dx dy dz buttons => exec_mouseEvent_moves c s dx dy dz buttons
  | .kbd00 | .kbd05 | .kbdEcho | .kbdOther _ => (Moves.refl s).pushKbd
  | .kbdSetLeds | .kbdScancode | .kbdSetRate => (Moves.refl s).setKbdCmd.pushKbd
  | .kbdEnable => (Moves.refl s).setScanEnabled.pushKbd
  | .kbdResetDisable | .kbdResetEnable => (Moves.refl s).kbdFullReset.setScanEnabled.pushKbd
  | .kbdGetId | .kbdEmit _ => (Moves.refl s).pushKbdAll
  | .kbdResetCmd => (Moves.refl s).kbdFullReset.pushKbdAll
  | .kbdArgScancode v => execKbdArgScancode_moves s v
  | .kbdArgSetLeds _ => (Moves.refl s).quietKbd.pushKbd.setKbdCmd
  | .kbdArgSetRate _ => (Moves.refl s).pushKbd.setKbdCmd
  | .kbdRead => (Moves.refl s).quietKbd.emit.popKbd.emit
  | .kbdSetTranslate _ => (Moves.refl s).quietKbd
  | .kbdReset => (Moves.refl s).clearKbd.setKbd _
  | .auxSetScale11 | .auxSetScale21 | .auxSetStream | .auxSetRemote | .auxEnableDev | .auxDisableDev
  | .auxSetDefault => (Moves.refl s).quietMouse.pushMouse
  | .auxSetRes | .auxSetSample => (Moves.refl s).setAuxCmd.pushMouse
  | .auxResetWrap | .auxSetWrap | .auxWrapExit => (Moves.refl s).setWrap.pushMouse
  | .auxGetScale | .auxGetType => (Moves.refl s).pushMouseAll
  | .auxPoll => (Moves.refl s).pushMouse.sendPacket
  | .auxReset => (Moves.refl s).quietMouse.pushMouseAll
  | .auxOther _ => Moves.refl s
  | .auxWrapEcho _ => (Moves.refl s).pushMouse
  | .auxArgSetRes _ => (Moves.refl s).quietMouse.pushMouse.setAuxCmd
  | .auxArgSetSample v => execAuxArgSetSample_moves s v
  | .mouseRead => (Moves.refl s).quietMouse.emit.popMouse.emit
  | .ps2MouseEvent dx dy dz buttons => execPs2MouseEvent_moves s dx dy dz buttons
  | .mouseReset => (Moves.refl s).clearMouse.setMouse _

variable {s} {t : State} {i : Instr}

theorem movesBy_of_exec (h : exec i s = .next t) : MovesBy i s t := by
  have hmoves := exec_moves s i
  rwa [h] at hmoves

end Instructions

/-! ## The statements -/

/-- Settles O9: every instruction completes, and how it moves the sequencing state keeps the rest. -/
theorem everyInstructionCompletes : Obligations.EveryInstructionCompletes := by
  intro i s
  obtain ⟨t, hexec⟩ := exec_completes i s
  have hmoves := movesBy_of_exec hexec
  obtain ⟨out, hout⟩ := hmoves.outputs
  exact ⟨t, out, hexec, hout.symm, hmoves.inputs, hmoves.params, hmoves.wiring⟩

/-- Settles O23: row by row, as the sequencing state moves. -/
theorem sequencingState : Obligations.SequencingState := by
  intro i s t hexec
  have hmoves := movesBy_of_exec hexec
  exact ⟨hmoves.protocol, hmoves.detect⟩

end Sys2Proof.Machine
end
